-- ==== Sys2Proof/Word.lean ====
section
/-!
DEFINITION. The word types of the SYSTEMS 86 and their plainest arithmetic.
Bit numbering: the manual numbers bits from the most significant end (00_scope.md R8), so bit k of an n-bit
pattern is `BitVec` bit n-1-k.  Byte order is big-endian (20_memory.md R61).
-/

namespace Sys2Proof

/-- A byte of memory (20_memory.md R60). -/
abbrev Byte := BitVec 8

/-- A halfword: a 16-bit instruction or operand (00_scope.md R18). -/
abbrev Half := BitVec 16

/-- A word: one register or memory cell (00_scope.md R6, WORD_BITS). -/
abbrev Word := BitVec 32

/-- A doubleword: an even-odd register pair or an even word and the next one (10_state.md R23). -/
abbrev DWord := BitVec 64

/-- A general register number (30_encoding.md R102). -/
abbrev Reg := BitVec 3

/-- A priority level number, 00H to 7FH (60_exceptions.md R430). -/
abbrev Level := BitVec 7

/-- A 19-bit byte address: 17-bit word address and the two C bits (20_memory.md R62). -/
abbrev Addr := BitVec 19

/-- A 17-bit word address (20_memory.md R62). -/
abbrev WordAddr := BitVec 17

/-- One bit per priority level; bit n belongs to level n (10_state.md R44). -/
abbrev LevelSet := BitVec 128

/-- Bit `k` of a pattern in the manual's numbering, bit 0 the most significant (00_scope.md R8). -/
def bitAt {n : Nat} (v : BitVec n) (k : Nat) : Bool := v.getLsbD (n - 1 - k)

/-- The most negative number of a width: the pattern 1 followed by zeros ("minus full scale" for a word). -/
def minusFullScale (n : Nat) : BitVec n := BitVec.ofNat n (2 ^ (n - 1))

/-- The word-address part of a byte address (20_memory.md R62). -/
def Addr.wordAddr (a : Addr) : WordAddr := a.extractLsb' 2 17

/-- The C bits of a byte address (20_memory.md R62). -/
def Addr.c (a : Addr) : BitVec 2 := a.extractLsb' 0 2

/-- The byte address of a word (20_memory.md R62: four times the word address). -/
def WordAddr.byteAddr (w : WordAddr) : Addr := w ++ 0#2

end Sys2Proof
end

