-- ==== Sys2Proof/Syntax.lean ====
section
/-!
DEFINITION. The instructions of the SYSTEMS 86: one constructor for each of the 152 rows of spec/opcode_table.json
(30_encoding.md R100, R120).  Register numbers and operand fields are already pulled out of the encoding.
-/

namespace Sys2Proof

/-- Bits 9 to 31 of a memory reference instruction or of an indirect address word (20_memory.md R64, R67). -/
structure MemRef where
  /-- Index register selector, bits 9 to 10: 00 none, 01 R1, 10 R2, 11 R3 (10_state.md R22). -/
  x : BitVec 2
  /-- Indirect bit, bit 11. -/
  ind : Bool
  /-- Format bit, bit 12 (the augment bit of the floating-point instructions, 30_encoding.md R115). -/
  f : Bool
  /-- Bits 13 to 31: word address and C (20_memory.md R62). -/
  addr : Addr
deriving DecidableEq, Repr

/-- The C bits of the address field (20_memory.md R62). -/
def MemRef.c (m : MemRef) : BitVec 2 := Addr.c m.addr

/-- The instructions.  Field names: `r`, `d`, `s`, `a`, `b` registers; `m` bits 9 to 31 of a memory reference word
(in trp and tpr the protect register number); `imm` the 16-bit operand; `n` a bit number, shift count or level; `y` the
byte number within a register; `d : BitVec 3` of bct and bcf the condition field. -/
inductive Instr where
  /-- LB (40 R144). -/
  | lb (r : Reg) (m : MemRef)
  /-- LH (40 R145). -/
  | lh (r : Reg) (m : MemRef)
  /-- LW (40 R146). -/
  | lw (r : Reg) (m : MemRef)
  /-- LD (40 R143). -/
  | ld (r : Reg) (m : MemRef)
  /-- LMB (40 R147). -/
  | lmb (r : Reg) (m : MemRef)
  /-- LMH (40 R148). -/
  | lmh (r : Reg) (m : MemRef)
  /-- LMW (40 R149). -/
  | lmw (r : Reg) (m : MemRef)
  /-- LMD (40 R150). -/
  | lmd (r : Reg) (m : MemRef)
  /-- LNB (40 R151). -/
  | lnb (r : Reg) (m : MemRef)
  /-- LNH (40 R152). -/
  | lnh (r : Reg) (m : MemRef)
  /-- LNW (40 R153). -/
  | lnw (r : Reg) (m : MemRef)
  /-- LND (40 R154). -/
  | lnd (r : Reg) (m : MemRef)
  /-- LI (40 R155). -/
  | li (r : Reg) (imm : BitVec 16)
  /-- LEA (40 R156). -/
  | lea (r : Reg) (m : MemRef)
  /-- STB (40 R160). -/
  | stb (r : Reg) (m : MemRef)
  /-- STH (40 R161). -/
  | sth (r : Reg) (m : MemRef)
  /-- STW (40 R162). -/
  | stw (r : Reg) (m : MemRef)
  /-- STD (40 R163). -/
  | std (r : Reg) (m : MemRef)
  /-- STMB (40 R164). -/
  | stmb (r : Reg) (m : MemRef)
  /-- STMH (40 R165). -/
  | stmh (r : Reg) (m : MemRef)
  /-- STMW (40 R166). -/
  | stmw (r : Reg) (m : MemRef)
  /-- STMD (40 R167). -/
  | stmd (r : Reg) (m : MemRef)
  /-- ZMB (40 R170). -/
  | zmb (m : MemRef)
  /-- ZMH (40 R171). -/
  | zmh (m : MemRef)
  /-- ZMW (40 R172). -/
  | zmw (m : MemRef)
  /-- ZMD (40 R173). -/
  | zmd (m : MemRef)
  /-- LCS (40 R179). -/
  | lcs (r : Reg)
  /-- LF (40 R180). -/
  | lf (r : Reg) (m : MemRef)
  /-- STF (40 R181). -/
  | stf (r : Reg) (m : MemRef)
  /-- ZR (40 R186). -/
  | zr (d : Reg)
  /-- ADMB (41 R192). -/
  | admb (r : Reg) (m : MemRef)
  /-- ADMH (41 R193). -/
  | admh (r : Reg) (m : MemRef)
  /-- ADMW (41 R194). -/
  | admw (r : Reg) (m : MemRef)
  /-- ADMD (41 R195). -/
  | admd (r : Reg) (m : MemRef)
  /-- ADR (41 R196). -/
  | adr (d s : Reg)
  /-- ADRM (41 R197). -/
  | adrm (d s : Reg)
  /-- ARMB (41 R198). -/
  | armb (r : Reg) (m : MemRef)
  /-- ARMH (41 R199). -/
  | armh (r : Reg) (m : MemRef)
  /-- ARMW (41 R200). -/
  | armw (r : Reg) (m : MemRef)
  /-- ARMD (41 R201). -/
  | armd (r : Reg) (m : MemRef)
  /-- ADI (41 R202). -/
  | adi (r : Reg) (imm : BitVec 16)
  /-- SUMB (41 R203). -/
  | sumb (r : Reg) (m : MemRef)
  /-- SUMH (41 R204). -/
  | sumh (r : Reg) (m : MemRef)
  /-- SUMW (41 R205). -/
  | sumw (r : Reg) (m : MemRef)
  /-- SUMD (41 R206). -/
  | sumd (r : Reg) (m : MemRef)
  /-- SUR (41 R207). -/
  | sur (d s : Reg)
  /-- SURM (41 R208). -/
  | surm (d s : Reg)
  /-- SUI (41 R209). -/
  | sui (r : Reg) (imm : BitVec 16)
  /-- MPMB (41 R211). -/
  | mpmb (r : Reg) (m : MemRef)
  /-- MPMH (41 R212). -/
  | mpmh (r : Reg) (m : MemRef)
  /-- MPMW (41 R213). -/
  | mpmw (r : Reg) (m : MemRef)
  /-- MPR (41 R214). -/
  | mpr (d s : Reg)
  /-- MPI (41 R215). -/
  | mpi (r : Reg) (imm : BitVec 16)
  /-- DVMB (41 R217). -/
  | dvmb (r : Reg) (m : MemRef)
  /-- DVMH (41 R218). -/
  | dvmh (r : Reg) (m : MemRef)
  /-- DVMW (41 R219). -/
  | dvmw (r : Reg) (m : MemRef)
  /-- DVR (41 R220). -/
  | dvr (d s : Reg)
  /-- DVI (41 R221). -/
  | dvi (r : Reg) (imm : BitVec 16)
  /-- ES (41 R222). -/
  | es (r : Reg)
  /-- RND (41 R223). -/
  | rnd (r : Reg)
  /-- ADFW (42 R235). -/
  | adfw (r : Reg) (m : MemRef)
  /-- ADFD (42 R236). -/
  | adfd (r : Reg) (m : MemRef)
  /-- SUFW (42 R237). -/
  | sufw (r : Reg) (m : MemRef)
  /-- SUFD (42 R238). -/
  | sufd (r : Reg) (m : MemRef)
  /-- MPFW (42 R239). -/
  | mpfw (r : Reg) (m : MemRef)
  /-- MPFD (42 R240). -/
  | mpfd (r : Reg) (m : MemRef)
  /-- DVFW (42 R241). -/
  | dvfw (r : Reg) (m : MemRef)
  /-- DVFD (42 R242). -/
  | dvfd (r : Reg) (m : MemRef)
  /-- ANMB (43 R252). -/
  | anmb (r : Reg) (m : MemRef)
  /-- ANMH (43 R253). -/
  | anmh (r : Reg) (m : MemRef)
  /-- ANMW (43 R254). -/
  | anmw (r : Reg) (m : MemRef)
  /-- ANMD (43 R255). -/
  | anmd (r : Reg) (m : MemRef)
  /-- ANR (43 R256). -/
  | anr (d s : Reg)
  /-- ORMB (43 R257). -/
  | ormb (r : Reg) (m : MemRef)
  /-- ORMH (43 R258). -/
  | ormh (r : Reg) (m : MemRef)
  /-- ORMW (43 R259). -/
  | ormw (r : Reg) (m : MemRef)
  /-- ORMD (43 R260). -/
  | ormd (r : Reg) (m : MemRef)
  /-- ORR (43 R261). -/
  | orr (d s : Reg)
  /-- ORRM (43 R262). -/
  | orrm (d s : Reg)
  /-- EOMB (43 R263). -/
  | eomb (r : Reg) (m : MemRef)
  /-- EOMH (43 R264). -/
  | eomh (r : Reg) (m : MemRef)
  /-- EOMW (43 R265). -/
  | eomw (r : Reg) (m : MemRef)
  /-- EOMD (43 R266). -/
  | eomd (r : Reg) (m : MemRef)
  /-- EOR (43 R268). -/
  | eor (d s : Reg)
  /-- EORM (43 R269). -/
  | eorm (d s : Reg)
  /-- SBM (44 R282). -/
  | sbm (n : BitVec 3) (m : MemRef)
  /-- SBR (44 R283). -/
  | sbr (n : BitVec 3) (r : Reg) (y : BitVec 2)
  /-- ZBM (44 R284). -/
  | zbm (n : BitVec 3) (m : MemRef)
  /-- ZBR (44 R285). -/
  | zbr (n : BitVec 3) (r : Reg) (y : BitVec 2)
  /-- ABM (44 R286). -/
  | abm (n : BitVec 3) (m : MemRef)
  /-- ABR (44 R287). -/
  | abr (n : BitVec 3) (r : Reg) (y : BitVec 2)
  /-- TBM (44 R288). -/
  | tbm (n : BitVec 3) (m : MemRef)
  /-- TBR (44 R289). -/
  | tbr (n : BitVec 3) (r : Reg) (y : BitVec 2)
  /-- CAMB (45 R301). -/
  | camb (r : Reg) (m : MemRef)
  /-- CAMH (45 R302). -/
  | camh (r : Reg) (m : MemRef)
  /-- CAMW (45 R303). -/
  | camw (r : Reg) (m : MemRef)
  /-- CAMD (45 R304). -/
  | camd (r : Reg) (m : MemRef)
  /-- CAR (45 R305). -/
  | car (d s : Reg)
  /-- CI (45 R306). -/
  | ci (r : Reg) (imm : BitVec 16)
  /-- CMMB (45 R307). -/
  | cmmb (r : Reg) (m : MemRef)
  /-- CMMH (45 R308). -/
  | cmmh (r : Reg) (m : MemRef)
  /-- CMMW (45 R309). -/
  | cmmw (r : Reg) (m : MemRef)
  /-- CMMD (45 R310). -/
  | cmmd (r : Reg) (m : MemRef)
  /-- CMR (45 R311). -/
  | cmr (d s : Reg)
  /-- BU (45 R315). -/
  | bu (m : MemRef)
  /-- BCT (45 R316). -/
  | bct (d : BitVec 3) (m : MemRef)
  /-- BCF (45 R317). -/
  | bcf (d : BitVec 3) (m : MemRef)
  /-- BFT (45 R318). -/
  | bft (m : MemRef)
  /-- BL (45 R319). -/
  | bl (m : MemRef)
  /-- BIB (45 R320). -/
  | bib (r : Reg) (m : MemRef)
  /-- BIH (45 R321). -/
  | bih (r : Reg) (m : MemRef)
  /-- BIW (45 R322). -/
  | biw (r : Reg) (m : MemRef)
  /-- BID (45 R323). -/
  | bid (r : Reg) (m : MemRef)
  /-- BRI (45 R324). -/
  | bri (m : MemRef)
  /-- TRR (46 R342). -/
  | trr (d s : Reg)
  /-- TRRM (46 R343). -/
  | trrm (d s : Reg)
  /-- TRN (46 R344). -/
  | trn (d s : Reg)
  /-- TRNM (46 R345). -/
  | trnm (d s : Reg)
  /-- XCR (46 R346). -/
  | xcr (d s : Reg)
  /-- XCRM (46 R347). -/
  | xcrm (d s : Reg)
  /-- TRC (46 R350). -/
  | trc (d s : Reg)
  /-- TRCM (46 R351). -/
  | trcm (d s : Reg)
  /-- TRP (46 R348). -/
  | trp (m : BitVec 4) (r : Reg)
  /-- TPR (46 R349). -/
  | tpr (m : BitVec 4) (r : Reg)
  /-- TRSW (46 R358). -/
  | trsw (r : Reg)
  /-- NOR (47 R363). -/
  | nor (a b : Reg)
  /-- NORD (47 R364). -/
  | nord (a b : Reg)
  /-- SCZ (47 R365). -/
  | scz (a b : Reg)
  /-- SLA (47 R366). -/
  | sla (r : Reg) (n : BitVec 5)
  /-- SLL (47 R367). -/
  | sll (r : Reg) (n : BitVec 5)
  /-- SLC (47 R368). -/
  | slc (r : Reg) (n : BitVec 5)
  /-- SLAD (47 R369). -/
  | slad (r : Reg) (n : BitVec 5)
  /-- SLLD (47 R370). -/
  | slld (r : Reg) (n : BitVec 5)
  /-- SRA (47 R371). -/
  | sra (r : Reg) (n : BitVec 5)
  /-- SRL (47 R372). -/
  | srl (r : Reg) (n : BitVec 5)
  /-- SRC (47 R373). -/
  | src (r : Reg) (n : BitVec 5)
  /-- SRAD (47 R374). -/
  | srad (r : Reg) (n : BitVec 5)
  /-- SRLD (47 R375). -/
  | srld (r : Reg) (n : BitVec 5)
  /-- EXR (48 R390). -/
  | exr (r : Reg)
  /-- EXRR (48 R391). -/
  | exrr (r : Reg)
  /-- EXM (48 R392). -/
  | exm (m : MemRef)
  /-- HALT (48 R393). -/
  | halt
  /-- WAIT (48 R394). -/
  | wait
  /-- NOP (48 R395). -/
  | nop
  /-- CALM (48 R396). -/
  | calm (flags : BitVec 10)
  /-- EI (49 R412). -/
  | ei (n : Level)
  /-- DI (49 R413). -/
  | di (n : Level)
  /-- RI (49 R414). -/
  | ri (n : Level)
  /-- AI (49 R415). -/
  | ai (n : Level)
  /-- DAI (49 R416). -/
  | dai (n : Level)
  /-- CD (49 R419). -/
  | cd (device : BitVec 7) (code : BitVec 16)
  /-- TD (49 R420). -/
  | td (device : BitVec 7) (code : BitVec 16)
deriving DecidableEq, Repr

end Sys2Proof
end

