-- ==== Sys2Proof/WellFormed.lean ====
section
/-!
DEFINITION. Which terms of Instr stand for an encoding.  The variant of a shared operation code is written in the
format code of the instruction word (30_encoding.md R105, R115); the fields that select an instruction are no operands.
-/

namespace Sys2Proof

/-- The format code of the word selects a byte: F = 1 (20_memory.md R63). -/
def MemRef.isByte (m : MemRef) : Bool := m.f

/-- The format code of the word selects a halfword: F = 0, C = 01 or 11. -/
def MemRef.isHalf (m : MemRef) : Bool := !m.f && (m.c == 1#2 || m.c == 3#2)

/-- The format code of the word selects a word: F = 0, C = 00. -/
def MemRef.isWord (m : MemRef) : Bool := !m.f && m.c == 0#2

/-- The format code of the word selects a doubleword: F = 0, C = 10. -/
def MemRef.isDouble (m : MemRef) : Bool := !m.f && m.c == 2#2

/-- F = 0 and C = 00 or 10: the word form of a multiply or divide, whose doubleword code exists only after indexing or
indirection (log 23). -/
def MemRef.isWordOrDouble (m : MemRef) : Bool := !m.f && (m.c == 0#2 || m.c == 2#2)

/-- A floating-point word form: bit 12 is the augment `aug`, C is not 10 (30_encoding.md R115, log 23). -/
def MemRef.isFloatWord (m : MemRef) (aug : Bool) : Bool := m.f == aug && m.c != 2#2

/-- A floating-point doubleword form: bit 12 is the augment `aug`, C is 10 (30_encoding.md R115). -/
def MemRef.isFloatDouble (m : MemRef) (aug : Bool) : Bool := m.f == aug && m.c == 2#2

/-- Well-formed instructions: those whose fields an instruction word can hold as that instruction. -/
def Instr.wellFormed : Instr → Bool
  | .lb _ m => m.isByte
  | .lh _ m => m.isHalf
  | .lw _ m => m.isWord
  | .ld _ m => m.isDouble
  | .lmb _ m => m.isByte
  | .lmh _ m => m.isHalf
  | .lmw _ m => m.isWord
  | .lmd _ m => m.isDouble
  | .lnb _ m => m.isByte
  | .lnh _ m => m.isHalf
  | .lnw _ m => m.isWord
  | .lnd _ m => m.isDouble
  | .li _ _ => true
  | .lea _ _ => true
  | .stb _ m => m.isByte
  | .sth _ m => m.isHalf
  | .stw _ m => m.isWord
  | .std _ m => m.isDouble
  | .stmb _ m => m.isByte
  | .stmh _ m => m.isHalf
  | .stmw _ m => m.isWord
  | .stmd _ m => m.isDouble
  | .zmb m => m.isByte
  | .zmh m => m.isHalf
  | .zmw m => m.isWord
  | .zmd m => m.isDouble
  | .lcs _ => true
  | .lf _ _ => true
  | .stf _ _ => true
  | .zr _ => true
  | .admb _ m => m.isByte
  | .admh _ m => m.isHalf
  | .admw _ m => m.isWord
  | .admd _ m => m.isDouble
  | .adr _ _ => true
  | .adrm _ _ => true
  | .armb _ m => m.isByte
  | .armh _ m => m.isHalf
  | .armw _ m => m.isWord
  | .armd _ m => m.isDouble
  | .adi _ _ => true
  | .sumb _ m => m.isByte
  | .sumh _ m => m.isHalf
  | .sumw _ m => m.isWord
  | .sumd _ m => m.isDouble
  | .sur _ _ => true
  | .surm _ _ => true
  | .sui _ _ => true
  | .mpmb _ m => m.isByte
  | .mpmh _ m => m.isHalf
  | .mpmw _ m => m.isWordOrDouble
  | .mpr _ _ => true
  | .mpi _ _ => true
  | .dvmb _ m => m.isByte
  | .dvmh _ m => m.isHalf
  | .dvmw _ m => m.isWordOrDouble
  | .dvr _ _ => true
  | .dvi _ _ => true
  | .es _ => true
  | .rnd _ => true
  | .adfw _ m => m.isFloatWord true
  | .adfd _ m => m.isFloatDouble true
  | .sufw _ m => m.isFloatWord false
  | .sufd _ m => m.isFloatDouble false
  | .mpfw _ m => m.isFloatWord true
  | .mpfd _ m => m.isFloatDouble true
  | .dvfw _ m => m.isFloatWord false
  | .dvfd _ m => m.isFloatDouble false
  | .anmb _ m => m.isByte
  | .anmh _ m => m.isHalf
  | .anmw _ m => m.isWord
  | .anmd _ m => m.isDouble
  | .anr _ _ => true
  | .ormb _ m => m.isByte
  | .ormh _ m => m.isHalf
  | .ormw _ m => m.isWord
  | .ormd _ m => m.isDouble
  | .orr _ _ => true
  | .orrm _ _ => true
  | .eomb _ m => m.isByte
  | .eomh _ m => m.isHalf
  | .eomw _ m => m.isWord
  | .eomd _ m => m.isDouble
  | .eor d s => d != s
  | .eorm _ _ => true
  | .sbm _ _ => true
  | .sbr _ _ _ => true
  | .zbm _ _ => true
  | .zbr _ _ _ => true
  | .abm _ _ => true
  | .abr _ _ _ => true
  | .tbm _ _ => true
  | .tbr _ _ _ => true
  | .camb _ m => m.isByte
  | .camh _ m => m.isHalf
  | .camw _ m => m.isWord
  | .camd _ m => m.isDouble
  | .car _ _ => true
  | .ci _ _ => true
  | .cmmb _ m => m.isByte
  | .cmmh _ m => m.isHalf
  | .cmmw _ m => m.isWord
  | .cmmd _ m => m.isDouble
  | .cmr _ _ => true
  | .bu _ => true
  | .bct d _ => d != 0#3
  | .bcf d _ => d != 0#3
  | .bft _ => true
  | .bl _ => true
  | .bib _ m => m.x == 0#2
  | .bih _ m => m.x == 0#2
  | .biw _ m => m.x == 0#2
  | .bid _ m => m.x == 0#2
  | .bri _ => true
  | .trr _ _ => true
  | .trrm _ _ => true
  | .trn _ _ => true
  | .trnm _ _ => true
  | .xcr _ _ => true
  | .xcrm _ _ => true
  | .trc _ _ => true
  | .trcm _ _ => true
  | .trp _ _ => true
  | .tpr _ _ => true
  | .trsw _ => true
  | .nor _ _ => true
  | .nord _ _ => true
  | .scz _ _ => true
  | .sla _ _ => true
  | .sll _ _ => true
  | .slc _ _ => true
  | .slad _ _ => true
  | .slld _ _ => true
  | .sra _ _ => true
  | .srl _ _ => true
  | .src _ _ => true
  | .srad _ _ => true
  | .srld _ _ => true
  | .exr _ => true
  | .exrr _ => true
  | .exm _ => true
  | .halt => true
  | .wait => true
  | .nop => true
  | .calm _ => true
  | .ei _ => true
  | .di _ => true
  | .ri _ => true
  | .ai _ => true
  | .dai _ => true
  | .cd _ _ => true
  | .td _ _ => true

end Sys2Proof
end

