-- ==== Sys2Proof/Decode.lean ====
section
/-!
DEFINITION. Decoding the bytes of an instruction (30_encoding.md), total, rejecting by name, and the encoder.
Unassigned fields are ignored on decode and written as zeros (R122).  A code shared by a byte, halfword, word and
doubleword variant decodes to the variant of the word's own format code (R105; log 23).
-/

namespace Sys2Proof

/-- Why some bytes are no instruction. -/
inductive DecodeReject where
  /-- No byte, or one byte, was given. -/
  | tooShort
  /-- An operation code Appendix F does not assign (30_encoding.md R121). -/
  | undefinedCode
  /-- A word-form operation code of which only a halfword was given (70_reset_and_hazards.md R507, 48_control.md R398). -/
  | wordCutShort
deriving DecidableEq, Repr

/-- Bits 9 to 31 of a word as a memory reference (30_encoding.md R103, 20_memory.md R62). -/
def MemRef.ofWord (w : Word) : MemRef :=
  { x := w.extractLsb' 21 2, ind := w.getLsbD 20, f := w.getLsbD 19, addr := w.extractLsb' 0 19 }

/-- The variant that a memory reference's own format code selects (20_memory.md R63). -/
def byFormat (m : MemRef) (byte half word double : Instr) : Instr :=
  if m.isByte then byte else if m.isHalf then half else if m.isDouble then double else word

/-- Operation code 00: the register-only control format (30_encoding.md R116). -/
def decodeControl (r : Reg) (aug : BitVec 4) : Option Instr :=
  match aug.toNat with
  | 0 => some .halt
  | 1 => some .wait
  | 2 => some .nop
  | 3 => some (.lcs r)
  | 4 => some (.es r)
  | 5 => some (.rnd r)
  | _ => none

/-- Operation code 2C: the register transfers (46_register_transfer.md R340). -/
def decodeTransfer (d s : Reg) (aug : BitVec 4) : Option Instr :=
  match aug.toNat with
  | 0 => some (.trr d s)
  | 3 => some (.trc d s)
  | 4 => some (.trn d s)
  | 5 => some (.xcr d s)
  | 8 => some (.trrm d s)
  | 11 => some (.trcm d s)
  | 12 => some (.trnm d s)
  | 13 => some (.xcrm d s)
  | _ => none

/-- An inter-register code with a plain form (augment 0) and possibly a masked one (augment 8) (30_encoding.md R108). -/
def plainOrMasked (aug : BitVec 4) (plain : Instr) (masked : Option Instr) : Option Instr :=
  if aug = 0#4 then some plain else if aug = 8#4 then masked else none

/-- The 32 halfword operation codes (30_encoding.md R120).  Bits 12 to 15 of NOR, NORD and SCZ, which are zero in the
format (R110), are ignored: neither R121 nor R122 names them (DESIGN CHOICE, log 44). -/
def decodeHalf (h : Half) : Option Instr :=
  let a : Reg := h.extractLsb' 7 3
  let b : Reg := h.extractLsb' 4 3
  let aug : BitVec 4 := h.extractLsb' 0 4
  let n : BitVec 5 := h.extractLsb' 0 5
  let y : BitVec 2 := h.extractLsb' 0 2
  let left := h.getLsbD 6
  match (h.extractLsb' 10 6).toNat with
  | 0x00 => decodeControl a aug
  | 0x01 => plainOrMasked aug (.anr a b) none
  | 0x02 => plainOrMasked aug (.orr a b) (some (.orrm a b))
  | 0x03 => plainOrMasked aug (if a = b then .zr a else .eor a b) (some (.eorm a b))
  | 0x04 => plainOrMasked aug (.car a b) none
  | 0x05 => plainOrMasked aug (.cmr a b) none
  | 0x06 => some (.sbr a b y)
  | 0x07 => some (.zbr a b y)
  | 0x08 => some (.abr a b y)
  | 0x09 => some (.tbr a b y)
  | 0x0a => some (.trsw a)
  | 0x0b => decodeTransfer a b aug
  | 0x0c => some (.calm (h.extractLsb' 0 10))
  | 0x0e => plainOrMasked aug (.adr a b) (some (.adrm a b))
  | 0x0f => plainOrMasked aug (.sur a b) (some (.surm a b))
  | 0x10 => plainOrMasked aug (.mpr a b) none
  | 0x11 => plainOrMasked aug (.dvr a b) none
  | 0x18 => some (.nor a b)
  | 0x19 => some (.nord a b)
  | 0x1a => some (.scz a b)
  | 0x1b => some (if left then .sla a n else .sra a n)
  | 0x1c => some (if left then .sll a n else .srl a n)
  | 0x1d => some (if left then .slc a n else .src a n)
  | 0x1e => some (if left then .slad a n else .srad a n)
  | 0x1f => some (if left then .slld a n else .srld a n)
  | _ => none

/-- Operation code C8: the immediate instructions and EXR, EXRR (30_encoding.md R104, R118). -/
def decodeImmediate (w : Word) : Option Instr :=
  let r : Reg := w.extractLsb' 23 3
  let imm : BitVec 16 := w.extractLsb' 0 16
  match (w.extractLsb' 16 3).toNat with
  | 0 => some (.li r imm)
  | 1 => some (.adi r imm)
  | 2 => some (.sui r imm)
  | 3 => some (.mpi r imm)
  | 4 => some (.dvi r imm)
  | 5 => some (.ci r imm)
  | 7 => some (if w.getLsbD 1 then .exrr r else .exr r)
  | _ => none

/-- Operation code F8: ZMB to ZMD, BL, BRI, TRP, TPR (30_encoding.md R114). -/
def decodeF8 (w : Word) : Option Instr :=
  let m := MemRef.ofWord w
  let p : BitVec 4 := w.extractLsb' 19 4
  let r : Reg := w.extractLsb' 16 3
  match (w.extractLsb' 23 3).toNat with
  | 0 => some (byFormat m (.zmb m) (.zmh m) (.zmw m) (.zmd m))
  | 1 => some (.bl m)
  | 2 => some (.bri m)
  | 6 => some (.trp p r)
  | 7 => some (.tpr p r)
  | _ => none

/-- Operation code FC: interrupt control and input/output (30_encoding.md R106, R107). -/
def decodeFC (w : Word) : Option Instr :=
  let n : Level := w.extractLsb' 19 7
  let code : BitVec 16 := w.extractLsb' 0 16
  match (w.extractLsb' 16 3).toNat with
  | 0 => some (.ei n)
  | 1 => some (.di n)
  | 2 => some (.ri n)
  | 3 => some (.ai n)
  | 4 => some (.dai n)
  | 5 => some (.td n code)
  | 6 => some (.cd n code)
  | _ => none

/-- Operation code F4: the branches after incrementing, told apart by bits 9 to 10 (30_encoding.md R113). -/
def decodeIncrement (r : Reg) (m : MemRef) : Instr :=
  let m' := { m with x := 0#2 }
  match m.x.toNat with
  | 0 => .bib r m'
  | 1 => .bih r m'
  | 2 => .biw r m'
  | _ => .bid r m'

/-- The 32 word operation codes (30_encoding.md R120). -/
def decodeWord (w : Word) : Option Instr :=
  let m := MemRef.ofWord w
  let r : Reg := w.extractLsb' 23 3
  match (w.extractLsb' 26 6).toNat with
  | 0x21 => some (byFormat m (.anmb r m) (.anmh r m) (.anmw r m) (.anmd r m))
  | 0x22 => some (byFormat m (.ormb r m) (.ormh r m) (.ormw r m) (.ormd r m))
  | 0x23 => some (byFormat m (.eomb r m) (.eomh r m) (.eomw r m) (.eomd r m))
  | 0x24 => some (byFormat m (.camb r m) (.camh r m) (.camw r m) (.camd r m))
  | 0x25 => some (byFormat m (.cmmb r m) (.cmmh r m) (.cmmw r m) (.cmmd r m))
  | 0x26 => some (.sbm r m)
  | 0x27 => some (.zbm r m)
  | 0x28 => some (.abm r m)
  | 0x29 => some (.tbm r m)
  | 0x2a => some (.exm m)
  | 0x2b => some (byFormat m (.lb r m) (.lh r m) (.lw r m) (.ld r m))
  | 0x2c => some (byFormat m (.lmb r m) (.lmh r m) (.lmw r m) (.lmd r m))
  | 0x2d => some (byFormat m (.lnb r m) (.lnh r m) (.lnw r m) (.lnd r m))
  | 0x2e => some (byFormat m (.admb r m) (.admh r m) (.admw r m) (.admd r m))
  | 0x2f => some (byFormat m (.sumb r m) (.sumh r m) (.sumw r m) (.sumd r m))
  | 0x30 => some (byFormat m (.mpmb r m) (.mpmh r m) (.mpmw r m) (.mpmw r m))
  | 0x31 => some (byFormat m (.dvmb r m) (.dvmh r m) (.dvmw r m) (.dvmw r m))
  | 0x32 => decodeImmediate w
  | 0x33 => some (.lf r m)
  | 0x34 => some (.lea r m)
  | 0x35 => some (byFormat m (.stb r m) (.sth r m) (.stw r m) (.std r m))
  | 0x36 => some (byFormat m (.stmb r m) (.stmh r m) (.stmw r m) (.stmd r m))
  | 0x37 => some (.stf r m)
  | 0x38 => some (if m.f then (if m.c = 2#2 then .adfd r m else .adfw r m)
      else (if m.c = 2#2 then .sufd r m else .sufw r m))
  | 0x39 => some (if m.f then (if m.c = 2#2 then .mpfd r m else .mpfw r m)
      else (if m.c = 2#2 then .dvfd r m else .dvfw r m))
  | 0x3a => some (byFormat m (.armb r m) (.armh r m) (.armw r m) (.armd r m))
  | 0x3b => some (if r = 0#3 then .bu m else .bct r m)
  | 0x3c => some (if r = 0#3 then .bft m else .bcf r m)
  | 0x3d => some (decodeIncrement r m)
  | 0x3e => decodeF8 w
  | 0x3f => decodeFC w
  | _ => none

/-- A decoder's answer by name. -/
def orUndefined : Option Instr → Except DecodeReject Instr
  | some i => .ok i
  | none => .error .undefinedCode

/-- The instruction that starts at a list of bytes, the first at the lowest address (30_encoding.md R101: bit 0 of the
first halfword tells the length; 20_memory.md R61: the first byte is the most significant). -/
def decode : List Byte → Except DecodeReject Instr
  | b0 :: b1 :: rest =>
    if b0.msb then
      match rest with
      | b2 :: b3 :: _ => orUndefined (decodeWord (b0 ++ b1 ++ b2 ++ b3))
      | _ => .error .wordCutShort
    else orUndefined (decodeHalf (b0 ++ b1))
  | _ => .error .tooShort

/-- The two bytes of a halfword, the more significant one first. -/
def halfBytes (h : Half) : List Byte := [h.extractLsb' 8 8, h.extractLsb' 0 8]

/-- The four bytes of a word, the most significant one first. -/
def wordBytes (w : Word) : List Byte :=
  [w.extractLsb' 24 8, w.extractLsb' 16 8, w.extractLsb' 8 8, w.extractLsb' 0 8]

/-- A halfword instruction with two register fields and a 4-bit augment (30_encoding.md R108). -/
def interRegister (op : BitVec 6) (d s : Reg) (aug : BitVec 4) : Half := op ++ d ++ s ++ aug

/-- A shift: register, direction, unassigned bit 10, count (30_encoding.md R109). -/
def shiftHalf (op : BitVec 6) (r : Reg) (left : Bool) (n : BitVec 5) : Half :=
  op ++ r ++ BitVec.ofBool left ++ 0#1 ++ n

/-- A bit-in-register instruction (30_encoding.md R112). -/
def bitHalf (op : BitVec 6) (n : BitVec 3) (r : Reg) (y : BitVec 2) : Half := op ++ n ++ r ++ 0#2 ++ y

/-- A memory reference instruction (30_encoding.md R103). -/
def memoryWord (op : BitVec 6) (r : BitVec 3) (m : MemRef) : Word :=
  op ++ r ++ m.x ++ BitVec.ofBool m.ind ++ BitVec.ofBool m.f ++ m.addr

/-- An immediate instruction (30_encoding.md R104). -/
def immediateWord (r : Reg) (aug : BitVec 3) (imm : BitVec 16) : Word := 0x32#6 ++ r ++ 0#4 ++ aug ++ imm

/-- An interrupt control or input/output instruction (30_encoding.md R106, R107). -/
def controlWord (n : BitVec 7) (aug : BitVec 3) (code : BitVec 16) : Word := 0x3F#6 ++ n ++ aug ++ code

/-- TRP or TPR (30_encoding.md R114). -/
def protectWord (sub : BitVec 3) (p : BitVec 4) (r : Reg) : Word := 0x3E#6 ++ sub ++ p ++ r ++ 0#16

/-- The bits of an instruction: a halfword (left) or a word (right). -/
def encodeBits : Instr → Half ⊕ Word
  | .lb r m => .inr (memoryWord 0x2b#6 r m)
  | .lh r m => .inr (memoryWord 0x2b#6 r m)
  | .lw r m => .inr (memoryWord 0x2b#6 r m)
  | .ld r m => .inr (memoryWord 0x2b#6 r m)
  | .lmb r m => .inr (memoryWord 0x2c#6 r m)
  | .lmh r m => .inr (memoryWord 0x2c#6 r m)
  | .lmw r m => .inr (memoryWord 0x2c#6 r m)
  | .lmd r m => .inr (memoryWord 0x2c#6 r m)
  | .lnb r m => .inr (memoryWord 0x2d#6 r m)
  | .lnh r m => .inr (memoryWord 0x2d#6 r m)
  | .lnw r m => .inr (memoryWord 0x2d#6 r m)
  | .lnd r m => .inr (memoryWord 0x2d#6 r m)
  | .li r imm => .inr (immediateWord r 0#3 imm)
  | .lea r m => .inr (memoryWord 0x34#6 r m)
  | .stb r m => .inr (memoryWord 0x35#6 r m)
  | .sth r m => .inr (memoryWord 0x35#6 r m)
  | .stw r m => .inr (memoryWord 0x35#6 r m)
  | .std r m => .inr (memoryWord 0x35#6 r m)
  | .stmb r m => .inr (memoryWord 0x36#6 r m)
  | .stmh r m => .inr (memoryWord 0x36#6 r m)
  | .stmw r m => .inr (memoryWord 0x36#6 r m)
  | .stmd r m => .inr (memoryWord 0x36#6 r m)
  | .zmb m => .inr (memoryWord 0x3e#6 0#3 m)
  | .zmh m => .inr (memoryWord 0x3e#6 0#3 m)
  | .zmw m => .inr (memoryWord 0x3e#6 0#3 m)
  | .zmd m => .inr (memoryWord 0x3e#6 0#3 m)
  | .lcs r => .inl (interRegister 0x00#6 r 0#3 0x3#4)
  | .lf r m => .inr (memoryWord 0x33#6 r m)
  | .stf r m => .inr (memoryWord 0x37#6 r m)
  | .zr d => .inl (interRegister 0x03#6 d d 0x0#4)
  | .admb r m => .inr (memoryWord 0x2e#6 r m)
  | .admh r m => .inr (memoryWord 0x2e#6 r m)
  | .admw r m => .inr (memoryWord 0x2e#6 r m)
  | .admd r m => .inr (memoryWord 0x2e#6 r m)
  | .adr d s => .inl (interRegister 0x0e#6 d s 0x0#4)
  | .adrm d s => .inl (interRegister 0x0e#6 d s 0x8#4)
  | .armb r m => .inr (memoryWord 0x3a#6 r m)
  | .armh r m => .inr (memoryWord 0x3a#6 r m)
  | .armw r m => .inr (memoryWord 0x3a#6 r m)
  | .armd r m => .inr (memoryWord 0x3a#6 r m)
  | .adi r imm => .inr (immediateWord r 1#3 imm)
  | .sumb r m => .inr (memoryWord 0x2f#6 r m)
  | .sumh r m => .inr (memoryWord 0x2f#6 r m)
  | .sumw r m => .inr (memoryWord 0x2f#6 r m)
  | .sumd r m => .inr (memoryWord 0x2f#6 r m)
  | .sur d s => .inl (interRegister 0x0f#6 d s 0x0#4)
  | .surm d s => .inl (interRegister 0x0f#6 d s 0x8#4)
  | .sui r imm => .inr (immediateWord r 2#3 imm)
  | .mpmb r m => .inr (memoryWord 0x30#6 r m)
  | .mpmh r m => .inr (memoryWord 0x30#6 r m)
  | .mpmw r m => .inr (memoryWord 0x30#6 r m)
  | .mpr d s => .inl (interRegister 0x10#6 d s 0x0#4)
  | .mpi r imm => .inr (immediateWord r 3#3 imm)
  | .dvmb r m => .inr (memoryWord 0x31#6 r m)
  | .dvmh r m => .inr (memoryWord 0x31#6 r m)
  | .dvmw r m => .inr (memoryWord 0x31#6 r m)
  | .dvr d s => .inl (interRegister 0x11#6 d s 0x0#4)
  | .dvi r imm => .inr (immediateWord r 4#3 imm)
  | .es r => .inl (interRegister 0x00#6 r 0#3 0x4#4)
  | .rnd r => .inl (interRegister 0x00#6 r 0#3 0x5#4)
  | .adfw r m => .inr (memoryWord 0x38#6 r m)
  | .adfd r m => .inr (memoryWord 0x38#6 r m)
  | .sufw r m => .inr (memoryWord 0x38#6 r m)
  | .sufd r m => .inr (memoryWord 0x38#6 r m)
  | .mpfw r m => .inr (memoryWord 0x39#6 r m)
  | .mpfd r m => .inr (memoryWord 0x39#6 r m)
  | .dvfw r m => .inr (memoryWord 0x39#6 r m)
  | .dvfd r m => .inr (memoryWord 0x39#6 r m)
  | .anmb r m => .inr (memoryWord 0x21#6 r m)
  | .anmh r m => .inr (memoryWord 0x21#6 r m)
  | .anmw r m => .inr (memoryWord 0x21#6 r m)
  | .anmd r m => .inr (memoryWord 0x21#6 r m)
  | .anr d s => .inl (interRegister 0x01#6 d s 0x0#4)
  | .ormb r m => .inr (memoryWord 0x22#6 r m)
  | .ormh r m => .inr (memoryWord 0x22#6 r m)
  | .ormw r m => .inr (memoryWord 0x22#6 r m)
  | .ormd r m => .inr (memoryWord 0x22#6 r m)
  | .orr d s => .inl (interRegister 0x02#6 d s 0x0#4)
  | .orrm d s => .inl (interRegister 0x02#6 d s 0x8#4)
  | .eomb r m => .inr (memoryWord 0x23#6 r m)
  | .eomh r m => .inr (memoryWord 0x23#6 r m)
  | .eomw r m => .inr (memoryWord 0x23#6 r m)
  | .eomd r m => .inr (memoryWord 0x23#6 r m)
  | .eor d s => .inl (interRegister 0x03#6 d s 0x0#4)
  | .eorm d s => .inl (interRegister 0x03#6 d s 0x8#4)
  | .sbm n m => .inr (memoryWord 0x26#6 n m)
  | .sbr n r y => .inl (bitHalf 0x06#6 n r y)
  | .zbm n m => .inr (memoryWord 0x27#6 n m)
  | .zbr n r y => .inl (bitHalf 0x07#6 n r y)
  | .abm n m => .inr (memoryWord 0x28#6 n m)
  | .abr n r y => .inl (bitHalf 0x08#6 n r y)
  | .tbm n m => .inr (memoryWord 0x29#6 n m)
  | .tbr n r y => .inl (bitHalf 0x09#6 n r y)
  | .camb r m => .inr (memoryWord 0x24#6 r m)
  | .camh r m => .inr (memoryWord 0x24#6 r m)
  | .camw r m => .inr (memoryWord 0x24#6 r m)
  | .camd r m => .inr (memoryWord 0x24#6 r m)
  | .car d s => .inl (interRegister 0x04#6 d s 0x0#4)
  | .ci r imm => .inr (immediateWord r 5#3 imm)
  | .cmmb r m => .inr (memoryWord 0x25#6 r m)
  | .cmmh r m => .inr (memoryWord 0x25#6 r m)
  | .cmmw r m => .inr (memoryWord 0x25#6 r m)
  | .cmmd r m => .inr (memoryWord 0x25#6 r m)
  | .cmr d s => .inl (interRegister 0x05#6 d s 0x0#4)
  | .bu m => .inr (memoryWord 0x3b#6 0#3 m)
  | .bct d m => .inr (memoryWord 0x3b#6 d m)
  | .bcf d m => .inr (memoryWord 0x3c#6 d m)
  | .bft m => .inr (memoryWord 0x3c#6 0#3 m)
  | .bl m => .inr (memoryWord 0x3e#6 1#3 m)
  | .bib r m => .inr (memoryWord 0x3d#6 r { m with x := 0#2 })
  | .bih r m => .inr (memoryWord 0x3d#6 r { m with x := 1#2 })
  | .biw r m => .inr (memoryWord 0x3d#6 r { m with x := 2#2 })
  | .bid r m => .inr (memoryWord 0x3d#6 r { m with x := 3#2 })
  | .bri m => .inr (memoryWord 0x3e#6 2#3 m)
  | .trr d s => .inl (interRegister 0x0b#6 d s 0x0#4)
  | .trrm d s => .inl (interRegister 0x0b#6 d s 0x8#4)
  | .trn d s => .inl (interRegister 0x0b#6 d s 0x4#4)
  | .trnm d s => .inl (interRegister 0x0b#6 d s 0xc#4)
  | .xcr d s => .inl (interRegister 0x0b#6 d s 0x5#4)
  | .xcrm d s => .inl (interRegister 0x0b#6 d s 0xd#4)
  | .trc d s => .inl (interRegister 0x0b#6 d s 0x3#4)
  | .trcm d s => .inl (interRegister 0x0b#6 d s 0xb#4)
  | .trp m r => .inr (protectWord 6#3 m r)
  | .tpr m r => .inr (protectWord 7#3 m r)
  | .trsw r => .inl (interRegister 0x0a#6 r 0#3 0x0#4)
  | .nor a b => .inl (interRegister 0x18#6 a b 0#4)
  | .nord a b => .inl (interRegister 0x19#6 a b 0#4)
  | .scz a b => .inl (interRegister 0x1a#6 a b 0#4)
  | .sla r n => .inl (shiftHalf 0x1b#6 r true n)
  | .sll r n => .inl (shiftHalf 0x1c#6 r true n)
  | .slc r n => .inl (shiftHalf 0x1d#6 r true n)
  | .slad r n => .inl (shiftHalf 0x1e#6 r true n)
  | .slld r n => .inl (shiftHalf 0x1f#6 r true n)
  | .sra r n => .inl (shiftHalf 0x1b#6 r false n)
  | .srl r n => .inl (shiftHalf 0x1c#6 r false n)
  | .src r n => .inl (shiftHalf 0x1d#6 r false n)
  | .srad r n => .inl (shiftHalf 0x1e#6 r false n)
  | .srld r n => .inl (shiftHalf 0x1f#6 r false n)
  | .exr r => .inr (immediateWord r 7#3 0#16)
  | .exrr r => .inr (immediateWord r 7#3 2#16)
  | .exm m => .inr (memoryWord 0x2a#6 0#3 m)
  | .halt => .inl (interRegister 0x00#6 0#3 0#3 0x0#4)
  | .wait => .inl (interRegister 0x00#6 0#3 0#3 0x1#4)
  | .nop => .inl (interRegister 0x00#6 0#3 0#3 0x2#4)
  | .calm flags => .inl (0x0c#6 ++ flags)
  | .ei n => .inr (controlWord n 0#3 0#16)
  | .di n => .inr (controlWord n 1#3 0#16)
  | .ri n => .inr (controlWord n 2#3 0#16)
  | .ai n => .inr (controlWord n 3#3 0#16)
  | .dai n => .inr (controlWord n 4#3 0#16)
  | .cd device code => .inr (controlWord device 6#3 code)
  | .td device code => .inr (controlWord device 5#3 code)

/-- The bytes of an instruction, the first at the lowest address. -/
def encode (i : Instr) : List Byte :=
  match encodeBits i with
  | .inl h => halfBytes h
  | .inr w => wordBytes w

/-- The bytes of an instruction whose bits are `w`, bit 0 the least significant bit of the whole halfword (nbits 16) or
word (otherwise), followed by zeros up to a word: the machine is big-endian. -/
def tableBytes (nbits w : Nat) : List Byte :=
  if nbits ≤ 16 then halfBytes (BitVec.ofNat 16 w) ++ [0#8, 0#8] else wordBytes (BitVec.ofNat 32 w)

/-- The instruction the decoder reads from bits numbered as spec/opcode_table.json numbers them. -/
def decodeTableWord (nbits w : Nat) : Option Instr :=
  match decode (tableBytes nbits w) with
  | .ok i => some i
  | .error _ => none

end Sys2Proof
end

