-- ==== Sys2Proof/Config.lean ====
section
/-!
DEFINITION. What an installation fixes (00_scope.md R6, 92_eei_decisions.md, parameters left OPEN) and the free
values: what the manual leaves open after an instruction that goes on (93_implementation_defined.md).
-/

namespace Sys2Proof

/-- The memory modules of Table 1-1 (00_scope.md R3): which kinds have a page-protect register and which have
port-access bits too. -/
inductive ModuleKind where
  /-- One port, byte parity. -/
  | k8630
  /-- One port, page protect. -/
  | k8631
  /-- Two ports, byte parity. -/
  | k8632
  /-- Two ports, page protect. -/
  | k8633
  /-- Two ports, page protect, port protect. -/
  | k8634
deriving DecidableEq, Repr

/-- Does the module have page-protect bits (10_state.md R37)? -/
def ModuleKind.hasPageProtect : ModuleKind → Bool
  | .k8630 => false
  | .k8631 => true
  | .k8632 => false
  | .k8633 => true
  | .k8634 => true

/-- Does the module have port-access bits (10_state.md R38)? -/
def ModuleKind.hasPortProtect : ModuleKind → Bool
  | .k8634 => true
  | .k8630 => false
  | .k8631 => false
  | .k8632 => false
  | .k8633 => false

/-- What an installation fixes about one of the sixteen Device Controller Channels of Table 3-2
(49_interrupt_io.md R418, R428; 60_exceptions.md R451). -/
structure ChannelConfig where
  /-- The channel's cards are in the chassis (DCC_INSTALLED). -/
  installed : Bool
  /-- The channel holds its Transfer Control Word in a register of its own (49 R428). -/
  highPriority : Bool
  /-- The actual priority of its service interrupt, a value in 14H to 23H (SI_ACTUAL, 60 R451). -/
  siActual : Level
deriving DecidableEq, Repr

/-- The parameters of 00_scope.md R6 that are fixed for the lifetime of a machine.  They stand in State so that
every statement over states holds for every installation; no step changes them (log 1). -/
structure Params where
  /-- The memory modules present, module 0 first (MEMORY_MODULES and MODULE_KIND). -/
  kinds : List ModuleKind
  /-- Option 8610, the Real Time Monitor features (OPT_RTM). -/
  optRtm : Bool
  /-- Option 8620, floating-point arithmetic (OPT_FP). -/
  optFp : Bool
  /-- Option 8640, Direct Memory Access (OPT_DMA); it changes no rule of one processor (log 15). -/
  optDma : Bool
  /-- Option 8671, the interval timer (OPT_TIMER). -/
  optTimer : Bool
  /-- The level the interval timer requests (60 R470: a configuration parameter). -/
  timerLevel : Level
  /-- The levels wired in this installation (LEVELS_PRESENT). -/
  levelsPresent : LevelSet
  /-- The sixteen channels of Table 3-2, in the table's order. -/
  channels : Vector ChannelConfig 16
  /-- Whether RI, AI and DAI reach the latches of levels 00H and 01H.  49_interrupt_io.md R411 and R414 to R416 say
  that they do, 60_exceptions.md R452 and R453 that the hardware alone drives them (DESIGN CHOICE, log 27). -/
  protectLevelsByProgram : Bool
  /-- How many indirect words a chain may have before it is declared endless (CHAIN_LIMIT). -/
  chainLimit : Nat
deriving DecidableEq, Repr

/-- The twelve levels of the basic computer that have latches, the external levels 2AH to 7FH, and the service
level 23H of the console channel (00_scope.md R6, 60_exceptions.md R443). -/
def Params.standardLevels : LevelSet :=
  BitVec.ofNat 128 (2 ^ 0x00 + 2 ^ 0x01 + 2 ^ 0x11 + 2 ^ 0x12 + 2 ^ 0x13 + (2 ^ 0x80 - 2 ^ 0x23))

/-- A group of external levels is wired whole or not at all (00_scope.md R6: options 8650 and 8651). -/
def Params.groupWhole (p : Params) (first count : Nat) : Bool :=
  let g := p.levelsPresent.extractLsb' first 16 &&& BitVec.ofNat 16 (2 ^ count - 1)
  g == 0#16 || g == BitVec.ofNat 16 (2 ^ count - 1)

/-- The actual priority of a service interrupt is a chassis position, 14H to 23H, and no two installed channels share
one (00 R6, 60_exceptions.md R451). -/
def Params.positionsLegal (p : Params) : Bool :=
  (List.finRange 16).all fun k => !p.channels[k].installed ||
    (decide (0x14 ≤ p.channels[k].siActual.toNat) && decide (p.channels[k].siActual.toNat ≤ 0x23) &&
      (List.finRange 16).all fun j => j == k || !p.channels[j].installed ||
        p.channels[j].siActual != p.channels[k].siActual)

/-- The ranges of 00_scope.md R6: 1 to 16 modules; the twelve levels of the basic computer (00H, 01H, 11H to 13H, 23H
to 29H); the external levels in whole groups; the console channel 7EH in position 16; the transfer and the service level
of each installed channel and of no other; the chassis positions; CHAIN_LIMIT 62 or more; the timer on an external level (log 1). -/
def Params.legal (p : Params) : Bool :=
  decide (1 ≤ p.kinds.length) && decide (p.kinds.length ≤ 16) && decide (62 ≤ p.chainLimit)
    && ([0x00, 0x01, 0x11, 0x12, 0x13, 0x23, 0x24, 0x25, 0x26, 0x27, 0x28, 0x29].all fun n =>
      p.levelsPresent.getLsbD n)
    && p.groupWhole 0x2A 6 && ([0x30, 0x40, 0x50, 0x60, 0x70].all fun n => p.groupWhole n 16)
    && p.channels[15].installed && p.channels[15].siActual == 0x23#7
    && ((List.finRange 16).all fun k => p.levelsPresent.getLsbD (0x02 + k.val) == p.channels[k].installed
      && p.levelsPresent.getLsbD (0x14 + k.val) == p.channels[k].installed)
    && p.positionsLegal && decide (0x2A ≤ p.timerLevel.toNat)

/-- The installation of State.reset: sixteen modules of kind 8633 (128K words with page protect), the Real Time
Monitor and floating-point options, every external level, the console keyboard/printer channel 7EH alone, in its
standard position and of the low-priority type (DESIGN CHOICE, log 1), levels 00H and 01H open to RI, AI and DAI as in
49_interrupt_io.md R411 (DESIGN CHOICE, log 27). -/
def Params.standard : Params :=
  { kinds := List.replicate 16 .k8633
    optRtm := true
    optFp := true
    optDma := false
    optTimer := false
    timerLevel := 0x2A#7
    levelsPresent := Params.standardLevels
    channels := Vector.ofFn fun k =>
      { installed := decide (k.val = 15), highPriority := false, siActual := BitVec.ofNat 7 (0x14 + k.val) }
    protectLevelsByProgram := true
    chainLimit := 62 }

namespace Config

/-- LEA: bits 0 to 11 of the result register "are undefined" (40 R156, 93 U1; log 8). -/
opaque leaHighBits : Nat → BitVec 12

/-- ARMB and ARMH: CC1, CC2 and CC3 are each "Undefined" (41 R198, R199, 93 U2; log 9). -/
opaque armConditionBits : Nat → BitVec 3

/-- The register pair after a divide by zero or a quotient overflow (41 R216, 93 U3; log 10). -/
opaque dividePair : Nat → DWord

/-- The result word of a floating-point instruction where the manual fixes none (93 U10; log 11). -/
opaque floatWord : Nat → Word

/-- The result doubleword of a floating-point instruction where the manual fixes none (93 U10; log 11). -/
opaque floatDouble : Nat → DWord

/-- Whether an operand the manual leaves open raises the arithmetic exception (93 U10; log 11). -/
opaque floatException : Nat → Bool

/-- The sign that ES and RND read from "R+1" when R is 7 (41 R222, R223, 93 U16; log 12). -/
opaque signBeyondR7 : Nat → Bool

/-- The four-bit answer of an installed channel to Test Device, for a draw, a device number and a test code
(49 R420, R421, 93 U13; log 13). -/
opaque deviceReply : Nat → BitVec 7 → BitVec 16 → BitVec 4

end Config

end Sys2Proof
end

