-- ==== Sys2Proof/Machine/State.lean ====
section
/-!
DEFINITION. The state of the SYSTEMS 86 (10_state.md, 20_memory.md, 49_interrupt_io.md, 60_exceptions.md), the reasons a
step can stop, and the machine right after power-on.
-/

namespace Sys2Proof.Machine

/-- The four condition code bits, PSWR bits 1 to 4 (10_state.md R30). -/
structure CC where
  /-- CC1: arithmetic exception, or the last bit tested. -/
  cc1 : Bool
  /-- CC2: greater than zero. -/
  cc2 : Bool
  /-- CC3: less than zero. -/
  cc3 : Bool
  /-- CC4: equal to zero. -/
  cc4 : Bool
deriving DecidableEq, Repr

/-- The Program Status Word Register by fields (10_state.md R28).  Bit 31 always reads 0 and is not stored (R31);
`Psw.word` in Ops.lean is the 32-bit register. -/
structure Psw where
  /-- Bit 0, the privileged-state bit (R29). -/
  priv : Bool
  /-- Bits 1 to 4 (R30). -/
  cc : CC
  /-- Bits 5 to 12, storage bits without a function (R31). -/
  mid : BitVec 8
  /-- Bits 13 to 30, the program count: a halfword address (R32). -/
  pc : BitVec 18
deriving DecidableEq, Repr

/-- The run state (10_state.md R49, 70_reset_and_hazards.md R513). -/
inductive RunState where
  /-- Instructions execute. -/
  | run
  /-- Entered by WAIT: input/output and interrupt servicing continue. -/
  | wait
  /-- Entered by HALT or the operator: nothing proceeds. -/
  | halt
  /-- The ac power is off: nothing proceeds, and only core memory is kept (70 R513). -/
  | off
deriving DecidableEq, Repr

/-- The positions of the privileged-state keyswitch (10_state.md R41, 60_exceptions.md R461). -/
inductive KeyswitchPosition where
  /-- "privileged" -/
  | privileged
  /-- "privileged and semi-privileged" -/
  | semiPrivileged
  /-- "unprivileged" -/
  | unprivileged
deriving DecidableEq, Repr

/-- The positions of the system-protect keylock (10_state.md R40). -/
inductive KeylockPosition where
  /-- "OFF" -/
  | off
  /-- "Interrupts Enabled" -/
  | interruptsEnabled
  /-- "Console Disabled" -/
  | consoleDisabled
deriving DecidableEq, Repr

/-- The direction of a transfer, seen from memory (49_interrupt_io.md R421). -/
inductive Direction where
  /-- The channel's datum goes to memory. -/
  | input
  /-- A datum of memory goes to the channel. -/
  | output
deriving DecidableEq, Repr

/-- A command held in a channel until it can be executed (49_interrupt_io.md R419). -/
structure Command where
  /-- The device number, bits 6 to 12 of CD. -/
  device : BitVec 7
  /-- The function code, bits 16 to 31 of CD. -/
  code : BitVec 16
deriving DecidableEq, Repr

/-- How far the answer to a transfer interrupt has come: the stolen cycles of a low-priority channel are not
contiguous (20_memory.md R82 (c), 49_interrupt_io.md R425, R428). -/
inductive Transfer where
  /-- The channel has requested it; no cycle has been made. -/
  | requested (dir : Direction)
  /-- The first cycle of a low-priority channel has read the Transfer Control Word. -/
  | located (dir : Direction) (control : Word)
  /-- The datum has moved; the updated Transfer Control Word is still to be written back. -/
  | moved (control : Word)
deriving DecidableEq, Repr

/-- What the spec gives a Device Controller Channel (10_state.md R46, 49_interrupt_io.md R421 to R429). -/
structure Channel where
  /-- The Transfer Control Word register of a high-priority channel (49 R428). -/
  tcw : Word
  /-- The data register: the datum of the pending or last transfer (10 R46). -/
  data : Word
  /-- The held command (10 R46). -/
  command : Option Command
  /-- A block transfer is in progress. -/
  busy : Bool
  /-- The automatic-reinitialization flag (49 R429). -/
  autoReinit : Bool
  /-- The input/output parity error condition (49 R428). -/
  parityError : Bool
  /-- The Illegal Memory Access condition (49 R428). -/
  illegalAccess : Bool
  /-- The pending transfer interrupt, if any (49 R425). -/
  transfer : Option Transfer
  /-- A block has ended and its service interrupt is still owed: it comes when the device can accept a new command
  (49 R421, R429). -/
  serviceOwed : Bool
deriving DecidableEq, Repr

/-- What the channels and the AIOS do on the memory bus, between any two memory cycles of the CP (49_interrupt_io.md
R421, R425, 20_memory.md R82; log 15). -/
inductive BusEvent where
  /-- A channel asks for an input transfer of a datum (49 R425). -/
  | input (k : Fin 16) (datum : Word)
  /-- A channel asks for an output transfer (49 R425). -/
  | output (k : Fin 16)
  /-- The AIOS makes its next memory cycle for a channel (49 R425, R428). -/
  | cycle (k : Fin 16)
  /-- A channel writes a word of a status snapshot through the AIOS (49 R420, R421). -/
  | snapshot (k : Fin 16) (wa : WordAddr) (v : Word)
deriving DecidableEq, Repr

/-- What the outside world can do between two instructions (00_scope.md R17; log 14). -/
inductive Event where
  /-- Something on the memory bus. -/
  | bus (b : BusEvent)
  /-- A signal on an external interrupt level, 2AH to 7FH (60 R442). -/
  | external (n : Level)
  /-- The console interrupt, level 13H (60 R442). -/
  | console
  /-- A tick of the real-time clock, level 28H (60 R471). -/
  | clockTick
  /-- The system override signal, level 01H (60 R473). -/
  | override
  /-- The ac power goes off: level 00H is requested (60 R472). -/
  | powerOff
  /-- The ac power is gone: the machine stops (70 R513). -/
  | powerLost
  /-- The power returns, with arbitrary values where 10 R57 says unspecified (70 R491 (a)). -/
  | powerOn (regs : Vector Word 8) (psw : Psw) (protect : Vector (BitVec 24) 16)
      (channels : Vector Channel 16) (timer : Word) (lamp : Bool)
  /-- A channel requests its service interrupt: its device can accept a new command, or a command went wrong
  (49 R421, R423, R429). -/
  | service (k : Fin 16)
  /-- A channel has executed its held command (49 R419). -/
  | commandTaken (k : Fin 16)
  /-- Fault injection: a word gets bad parity (10 R43). -/
  | parityFault (wa : WordAddr)
  /-- The interval timer register is loaded (10 R47). -/
  | timerLoad (v : Word)
  /-- The interval timer counts one down (10 R47, 60 R470). -/
  | timerCount
  /-- The operator stops the machine (70 R491 (b)). -/
  | operatorHalt
  /-- The operator starts the machine (70 R491 (b)). -/
  | operatorRun
  /-- The operator, in HALT, writes a general register (70 R491 (b)). -/
  | operatorRegister (r : Reg) (v : Word)
  /-- The operator, in HALT, writes a word of memory (70 R491 (b)). -/
  | operatorMemory (wa : WordAddr) (v : Word)
  /-- The operator, in HALT, writes PSWR bits 0 to 30 (70 R491 (b)). -/
  | operatorPsw (v : Word)
  /-- The operator sets the thirteen control switches (10 R39). -/
  | controlSwitches (v : BitVec 13)
  /-- The privileged-state keyswitch is operated (60 R461). -/
  | keyswitch (p : KeyswitchPosition)
  /-- The system-protect keylock is turned (60 R474). -/
  | keylock (p : KeylockPosition)
deriving DecidableEq, Repr

/-- What arrives from outside during one step. -/
structure Arrival where
  /-- The events before the service check, in order. -/
  before : List Event
  /-- What happens on the bus before the first, the second, ... memory cycle of the CP in this step. -/
  within : List (List BusEvent)
deriving DecidableEq, Repr

/-- The whole machine. -/
structure State where
  /-- R0 to R7 (10_state.md R20). -/
  regs : Vector Word 8
  /-- The Program Status Word Register (10 R28). -/
  psw : Psw
  /-- Core memory: byte address and byte, addresses strictly rising, no byte equal to 00, which is what an unlisted
  address reads as (10 R42, 20 R60; log 5). -/
  mem : List Host.Cell
  /-- The words with bad parity, word addresses strictly rising (10 R43). -/
  parityBad : List Nat
  /-- The protect register of each module, bits 8 to 31 of Table 2-6 (10 R37, R38). -/
  protect : Vector (BitVec 24) 16
  /-- enabled[n] (10 R44). -/
  enabled : LevelSet
  /-- request[n] (10 R44). -/
  request : LevelSet
  /-- active[n] (10 R44). -/
  active : LevelSet
  /-- The one-instruction interrupt shield (10 R50, 60 R455). -/
  shield : Bool
  /-- SEMI: bit 0 = 0 means Semi-Privileged (10 R41, 60 R462). -/
  semi : Bool
  /-- KEYSWITCH_PENDING (10 R41, 60 R461). -/
  keyswitchPending : Bool
  /-- The position of the privileged-state keyswitch (10 R41). -/
  keyswitch : KeyswitchPosition
  /-- The position of the system-protect keylock (10 R40). -/
  keylock : KeylockPosition
  /-- The control switches CS 0 to CS 12, CS 0 the most significant bit (10 R39). -/
  controlSwitches : BitVec 13
  /-- The run state (10 R49). -/
  run : RunState
  /-- The memory parity error indicator is lighted (10 R43). -/
  errorIndicator : Bool
  /-- The interval timer register (10 R47). -/
  intervalTimer : Word
  /-- The sixteen channels of Table 3-2, in the table's order (10 R46). -/
  channels : Vector Channel 16
  /-- The MODEL's: the instruction at the program count is caught in an endless indirect chain (70 R504, log 20). -/
  hung : Bool
  /-- The MODEL's: the parameters of the installation (log 1). -/
  cfg : Params
  /-- The MODEL's: what arrives from outside in each of the coming steps (log 14). -/
  inputs : List Arrival
  /-- The MODEL's: what happens on the bus before each of the coming memory cycles of the step (log 15). -/
  within : List (List BusEvent)
  /-- The MODEL's: how many free values have been drawn (log 8). -/
  draws : Nat
deriving DecidableEq, Repr

/-- Where the machine does something the spec calls undefined and gives no effect. -/
inductive Fault where
  /-- Raised by a multiply, divide or floating-point instruction whose effective format code selects a variant the
  operation code does not have (30 R105, 93 U6).  Safe: the run stops. -/
  | noVariant
  /-- Raised by interrupt or trap entry when the dedicated word cannot be read with good parity (60 R457 (d), 93 U11).
  Safe: the run stops. -/
  | entryDedicatedWord
  /-- Raised by interrupt or trap entry when the save location is not present or not writable through port 2
  (60 R457 (d), 93 U11).  Safe: the run stops. -/
  | entrySaveLocation
deriving DecidableEq, Repr

/-- Why an instruction has no meaning in the model. -/
inductive Refusal where
  /-- Raised by an arm of Dispatch.lean whose instruction is not modelled yet; no arm raises it now.  Safe: the run
  stops. -/
  | notModelled (mnemonic : String)
deriving DecidableEq, Repr

/-- A channel right after reset: no transfer in progress (10 R57), the rest zero or none (DESIGN CHOICE, log 6). -/
def Channel.reset : Channel :=
  { tcw := 0#32, data := 0#32, command := none, busy := false, autoReinit := false, parityError := false
    illegalAccess := false, transfer := none, serviceOwed := false }

/-- The machine right after power-on (10_state.md R57, 70_reset_and_hazards.md R491 (a), R495).  Every level latch is
0 but request[00H]; PSWR bit 0 is 1, SEMI false, KEYSWITCH_PENDING true; the run state is RUN; the shield is clear;
memory lists nothing.  What the spec leaves unspecified is zero (DESIGN CHOICE, logs 1 to 6). -/
def State.reset : State :=
  { regs := Vector.replicate 8 0#32
    psw := { priv := true, cc := ⟨false, false, false, false⟩, mid := 0#8, pc := 0#18 }
    mem := []
    parityBad := []
    protect := Vector.replicate 16 0#24
    enabled := 0#128
    request := 1#128
    active := 0#128
    shield := false
    semi := false
    keyswitchPending := true
    keyswitch := .privileged
    keylock := .off
    controlSwitches := 0#13
    run := .run
    errorIndicator := false
    intervalTimer := 0#32
    channels := Vector.replicate 16 Channel.reset
    hung := false
    cfg := Params.standard
    inputs := []
    within := []
    draws := 0 }

end Sys2Proof.Machine
end

