-- ==== Sys2Proof/Machine/Memory.lean ====
section
/-!
DEFINITION. The named operations over memory, registers, the PSWR, protection and the interrupt latches: the one place
where each is read and written.
-/

namespace Sys2Proof.Machine

/-! ## Memory as a list of cells -/

/-- The byte a memory holds at an address; an unlisted address reads as 00 (log 5). -/
def memGet : List Host.Cell → Nat → Byte
  | [], _ => 0#8
  | c :: t, a => if c.1 = a then c.2 else memGet t a

/-- Insert a cell in front of the first one with a higher address. -/
def memInsert : List Host.Cell → Nat → Byte → List Host.Cell
  | [], a, b => [(a, b)]
  | c :: t, a, b => if a < c.1 then (a, b) :: c :: t else c :: memInsert t a b

/-- Write a byte: the old cell goes, and a byte other than what an unlisted address reads as comes. -/
def memPut (m : List Host.Cell) (a : Nat) (b : Byte) : List Host.Cell :=
  let rest := m.filter fun c => c.1 != a
  if b = 0#8 then rest else memInsert rest a b

/-- The canonical form from an address on: rising addresses of the address space, no byte 00. -/
def memWfFrom : Nat → List Host.Cell → Bool
  | _, [] => true
  | lo, c :: t => decide (lo ≤ c.1) && decide (c.1 < 2 ^ 19) && c.2 != 0#8 && memWfFrom (c.1 + 1) t

/-- The memory is in its canonical form. -/
def Memory.wf (m : List Host.Cell) : Bool := memWfFrom 0 m

/-- Insert a word address into a rising list. -/
def natInsert : List Nat → Nat → List Nat
  | [], w => [w]
  | k :: t, w => if w < k then w :: k :: t else k :: natInsert t w

/-- The canonical form of the list of words with bad parity: rising word addresses. -/
def parityWfFrom : Nat → List Nat → Bool
  | _, [] => true
  | lo, k :: t => decide (lo ≤ k) && decide (k < 2 ^ 17) && parityWfFrom (k + 1) t

/-- The byte at a byte address (20_memory.md R60). -/
def State.byteAt (s : State) (a : Addr) : Byte := memGet s.mem a.toNat

/-- Replace one byte; the other bytes of the word keep their values (20 R60). -/
def State.setByte (s : State) (a : Addr) (b : Byte) : State := { s with mem := memPut s.mem a.toNat b }

/-- The byte address of byte 0 or 1 of the halfword that holds a byte address (20 R63). -/
def halfByteAddr (a : Addr) (k : BitVec 1) : Addr := a.extractLsb' 1 18 ++ k

/-- The halfword that holds a byte address, the lower-addressed byte the more significant (20 R61). -/
def State.halfAt (s : State) (a : Addr) : Half := s.byteAt (halfByteAddr a 0#1) ++ s.byteAt (halfByteAddr a 1#1)

/-- Replace one halfword. -/
def State.setHalf (s : State) (a : Addr) (h : Half) : State :=
  { s with
    mem := memPut (memPut s.mem (halfByteAddr a 0#1).toNat (h.extractLsb' 8 8)) (halfByteAddr a 1#1).toNat
      (h.extractLsb' 0 8) }

/-- The word at a word address, byte 0 the most significant (20 R61). -/
def State.wordAt (s : State) (w : WordAddr) : Word :=
  s.byteAt (w ++ 0#2) ++ s.byteAt (w ++ 1#2) ++ s.byteAt (w ++ 2#2) ++ s.byteAt (w ++ 3#2)

/-- A word of memory has bad parity (10 R43). -/
def State.parityBadAt (s : State) (w : WordAddr) : Bool := s.parityBad.contains w.toNat

/-- The four bytes of a word go to its place, byte 0 the most significant. -/
def memPutWord (m : List Host.Cell) (w : WordAddr) (v : Word) : List Host.Cell :=
  memPut (memPut (memPut (memPut m (w ++ 0#2).toNat (v.extractLsb' 24 8)) (w ++ 1#2).toNat (v.extractLsb' 16 8))
    (w ++ 2#2).toNat (v.extractLsb' 8 8)) (w ++ 3#2).toNat (v.extractLsb' 0 8)

/-- The list of words with bad parity after a full-word write of one of them (92 D29). -/
def cleanParity (l : List Nat) (w : WordAddr) : List Nat := l.filter fun k => k != w.toNat

/-- A full-word write: the word is replaced and its parity becomes good (92 D29). -/
def State.setWord (s : State) (w : WordAddr) (v : Word) : State :=
  { s with mem := memPutWord s.mem w v, parityBad := cleanParity s.parityBad w }

/-- Fault injection: the word gets bad parity (10 R43). -/
def State.spoilParity (s : State) (w : WordAddr) : State :=
  { s with parityBad := natInsert (cleanParity s.parityBad w) w.toNat }

/-- The even word of the doubleword that a word address lies in (20 R70). -/
def evenWord (w : WordAddr) : WordAddr := w.extractLsb' 1 16 ++ 0#1

/-- The odd word of the doubleword that a word address lies in (20 R70). -/
def oddWord (w : WordAddr) : WordAddr := w.extractLsb' 1 16 ++ 1#1

/-- The doubleword that a word address lies in, the even word the more significant (20 R61). -/
def State.doubleAt (s : State) (w : WordAddr) : DWord := s.wordAt (evenWord w) ++ s.wordAt (oddWord w)

/-! ## Registers -/

/-- R[n] (00_scope.md R11). -/
def State.reg (s : State) (r : Reg) : Word := s.regs[r.toNat]'r.isLt

/-- R[n] <- v (00 R11). -/
def State.setReg (s : State) (r : Reg) (v : Word) : State := { s with regs := s.regs.set r.toNat v r.isLt }

/-- The even register of the pair a register number names (10 R23). -/
def pairEven (r : Reg) : Reg := r.extractLsb' 1 2 ++ 0#1

/-- The odd register of the pair a register number names (10 R23). -/
def pairOdd (r : Reg) : Reg := r.extractLsb' 1 2 ++ 1#1

/-- RP[n & 6], the even register the more significant word (00 R11). -/
def State.pair (s : State) (r : Reg) : DWord := s.reg (pairEven r) ++ s.reg (pairOdd r)

/-- RP[n & 6] <- v. -/
def State.setPair (s : State) (r : Reg) (v : DWord) : State :=
  { s with
    regs := (s.regs.set (pairOdd r).toNat (v.extractLsb' 0 32) (pairOdd r).isLt).set (pairEven r).toNat
      (v.extractLsb' 32 32) (pairEven r).isLt }

/-- The mask register R4 (10 R24). -/
def State.mask (s : State) : Word := s.reg 4#3

/-! ## The Program Status Word Register -/

/-- CC1 to CC4 as a number, CC1 the most significant (00 R11). -/
def CC.bits (c : CC) : BitVec 4 :=
  BitVec.ofBool c.cc1 ++ BitVec.ofBool c.cc2 ++ BitVec.ofBool c.cc3 ++ BitVec.ofBool c.cc4

/-- The condition code that four bits hold. -/
def CC.ofBits (b : BitVec 4) : CC := ⟨b.getLsbD 3, b.getLsbD 2, b.getLsbD 1, b.getLsbD 0⟩

/-- The 32-bit register: bit 31 reads 0 (10 R28, R31). -/
def Psw.word (p : Psw) : Word := BitVec.ofBool p.priv ++ p.cc.bits ++ p.mid ++ p.pc ++ 0#1

/-- Bits 1 to 12 from a word (45 R314). -/
def Psw.loadStatus (p : Psw) (w : Word) : Psw :=
  { p with cc := CC.ofBits (w.extractLsb' 27 4), mid := w.extractLsb' 19 8 }

/-- Bits 1 to 30 from a word: bits 0 and 31 are not loaded (46 R358). -/
def Psw.load (p : Psw) (w : Word) : Psw := { p.loadStatus w with pc := w.extractLsb' 1 18 }

/-- Bits 0 to 30 from a word (70 R491 (b)). -/
def Psw.loadAll (p : Psw) (w : Word) : Psw := { p.load w with priv := w.getLsbD 31 }

/-- Replace the program count (00 R11). -/
def State.setPc (s : State) (pc : BitVec 18) : State := { s with psw := { s.psw with pc := pc } }

/-- Replace the condition code. -/
def State.setCC (s : State) (c : CC) : State := { s with psw := { s.psw with cc := c } }

/-- The program count moves past `len` halfwords, modulo 2^18 (10 R33, R34). -/
def State.advance (s : State) (len : BitVec 18) : State := s.setPc (s.psw.pc + len)

/-- The word part of the program count (10 R32). -/
def State.pcWord (s : State) : WordAddr := s.psw.pc.extractLsb' 1 17

/-- The program count addresses the right halfword of its word (10 R32). -/
def State.pcRight (s : State) : Bool := s.psw.pc.getLsbD 0

/-! ## Privilege and protection -/

/-- `NotPrivileged` of 00 R11: Unprivileged or Semi-Privileged. -/
def State.notPrivileged (s : State) : Bool := s.cfg.optRtm && !s.psw.priv

/-- `Unprivileged` of 00 R11. -/
def State.unprivileged (s : State) : Bool := s.cfg.optRtm && !s.psw.priv && !s.semi

/-- The module of a word address: its four high-order bits (10 R37). -/
def moduleOf (w : WordAddr) : BitVec 4 := w.extractLsb' 13 4

/-- The page of a word address within its module (20 R75). -/
def pageOf (w : WordAddr) : BitVec 4 := w.extractLsb' 9 4

/-- PR[m] as it reads: in a port-protected module 0, bit 10 reads as one whatever was stored (10 R38). -/
def State.protectReg (s : State) (m : BitVec 4) : BitVec 24 :=
  let v := s.protect[m.toNat]'m.isLt
  if m = 0#4 then v ||| 0x200000#24 else v

/-- The kind of an installed module. -/
def State.kindOf (s : State) (m : BitVec 4) : Option ModuleKind := s.cfg.kinds[m.toNat]?

/-- The module has port-access bits in force (92 D14: none without OPT_RTM). -/
def State.portProtected (s : State) (m : BitVec 4) : Bool :=
  s.cfg.optRtm && match s.kindOf m with
    | some k => k.hasPortProtect
    | none => false

/-- The module has a page-protect register in force. -/
def State.pageProtected (s : State) (m : BitVec 4) : Bool :=
  s.cfg.optRtm && match s.kindOf m with
    | some k => k.hasPageProtect
    | none => false

/-- The port 2 access bits, bits 10 and 11 of the register (20 R76). -/
def State.port2 (s : State) (m : BitVec 4) : BitVec 2 := (s.protectReg m).extractLsb' 20 2

/-- The port 1 access bits, bits 8 and 9 of the register (20 R76). -/
def State.port1 (s : State) (m : BitVec 4) : BitVec 2 := (s.protectReg m).extractLsb' 22 2

/-- The word is present for the processor: its module is installed and not closed to port 2 (20 R74, R76). -/
def State.present (s : State) (w : WordAddr) : Bool :=
  (s.kindOf (moduleOf w)).isSome && !(s.portProtected (moduleOf w) && s.port2 (moduleOf w) == 0#2)

/-- Port access 01: the processor may read and not write (20 R76). -/
def State.portReadOnly (s : State) (w : WordAddr) : Bool :=
  s.portProtected (moduleOf w) && s.port2 (moduleOf w) == 1#2

/-- The page of the word is protected (20 R75). -/
def State.pageLocked (s : State) (w : WordAddr) : Bool :=
  s.pageProtected (moduleOf w) && (s.protectReg (moduleOf w)).getLsbD (pageOf w).toNat

/-! ## Operands in memory (20_memory.md R62, R63) -/

/-- What `EffAddr` delivers. -/
structure Ea where
  /-- The effective F. -/
  f : Bool
  /-- The effective C. -/
  c : BitVec 2
  /-- `a_raw`: the final address as formed at the last level. -/
  raw : Addr
  /-- `last`: the last indirect address word, if any. -/
  last : Option Word
deriving DecidableEq, Repr

/-- `a_op`: the final word address with the effective C. -/
def Ea.op (e : Ea) : Addr := e.raw.wordAddr ++ e.c

/-- The word address of the operand. -/
def Ea.word (e : Ea) : WordAddr := e.raw.wordAddr

/-- The four operand formats (20 R63). -/
inductive Format where
  /-- F = 1. -/
  | byte
  /-- F = 0, C = 01 or 11. -/
  | half
  /-- F = 0, C = 00. -/
  | word
  /-- F = 0, C = 10. -/
  | double
deriving DecidableEq, Repr

/-- The format the effective F and C select (20 R63). -/
def Ea.format (e : Ea) : Format :=
  if e.f then .byte
  else if e.c = 0#2 then .word
  else if e.c = 2#2 then .double
  else .half

/-- An operand of memory with its width. -/
inductive Datum where
  /-- A byte operand. -/
  | byte (b : Byte)
  /-- A halfword operand. -/
  | half (h : Half)
  /-- A word operand. -/
  | word (w : Word)
  /-- A doubleword operand. -/
  | double (d : DWord)
deriving DecidableEq, Repr

/-- The operand in memory at an effective address, without any check. -/
def State.datum (s : State) (e : Ea) : Datum :=
  match e.format with
  | .byte => .byte (s.byteAt e.op)
  | .half => .half (s.halfAt e.op)
  | .word => .word (s.wordAt e.word)
  | .double => .double (s.doubleAt e.word)

/-! ## Priority levels (60_exceptions.md R450 to R454) -/

/-- Is the latch of a level set? -/
def hasLevel (l : LevelSet) (n : Level) : Bool := l.getLsbD n.toNat

/-- Set or clear the latch of a level. -/
def setLevel (l : LevelSet) (n : Level) (v : Bool) : LevelSet :=
  if v then l ||| (1#128 <<< n.toNat) else l &&& ~~~(1#128 <<< n.toNat)

/-- The 128 levels. -/
def allLevels : List Level := (List.range 128).map (BitVec.ofNat 7)

/-- The channel of a service interrupt level 14H to 23H (49 R418). -/
def channelOfService (n : Level) : Fin 16 := Fin.ofNat 16 (n.toNat - 0x14)

/-- `prio(n)`: the level number, but the actual priority for the service interrupt of an installed channel (60 R451). -/
def State.prio (s : State) (n : Level) : Nat :=
  if 0x14 ≤ n.toNat ∧ n.toNat ≤ 0x23 then
    let c := s.cfg.channels[channelOfService n]
    if c.installed then c.siActual.toNat else n.toNat
  else n.toNat

/-- Some active level has the same or a higher priority (60 R432, R454). -/
def State.blocked (s : State) (n : Level) : Bool :=
  allLevels.any fun m => hasLevel s.active m && decide (s.prio m ≤ s.prio n)

/-- Of some levels the one of least `prio`. -/
def State.highest (s : State) : List Level → Option Level
  | [] => none
  | n :: t =>
    match s.highest t with
    | none => some n
    | some m => if s.prio m < s.prio n then some m else some n

/-- The level is wired in this installation. -/
def State.levelPresent (s : State) (n : Level) : Bool := hasLevel s.cfg.levelsPresent n

/-- `request Level(n)` (00 R14). -/
def State.requestLevel (s : State) (n : Level) : State := { s with request := setLevel s.request n true }

/-- A signal on a level; one on a level that is not present has no effect (60 R442). -/
def State.signal (s : State) (n : Level) : State := if s.levelPresent n then s.requestLevel n else s

/-- `if exc then request ArithmeticException` (60 R440). -/
def State.requestArithmetic (s : State) (exc : Bool) : State := if exc then s.requestLevel 0x29#7 else s

/-- `active[n] <- 0` for the active level of highest priority, if there is one (45 R324). -/
def State.resetHighestActive (s : State) : State :=
  match s.highest (allLevels.filter fun n => hasLevel s.active n) with
  | some n => { s with active := setLevel s.active n false }
  | none => s

/-! ## Free values -/

/-- The next free value is drawn after this one (log 8). -/
def State.drawn (s : State) : State := { s with draws := s.draws + 1 }

end Sys2Proof.Machine
end

