-- ==== Sys2Proof/Machine/Aios.lean ====
section
/-!
DEFINITION. The Automatic Input/Output System (49_interrupt_io.md R425 to R429), one memory cycle at a time, and what
the channels do on the memory bus between two memory cycles of the CP (20_memory.md R73, R82; log 15).
-/

namespace Sys2Proof.Machine

/-- The sixteen channels in the order of Table 3-2. -/
def allChannels : List (Fin 16) := [0, 1, 2, 3, 4, 5, 6, 7, 8, 9, 10, 11, 12, 13, 14, 15]

/-- The service interrupt level of a channel, its virtual level (49 R418). -/
def serviceLevel (k : Fin 16) : Level := BitVec.ofNat 7 (0x14 + k.val)

/-- Some channel answers the device number. -/
def State.channelInstalled (s : State) (k : Fin 16) : Bool := s.cfg.channels[k].installed

/-- The TI dedicated location of a channel, which holds its Transfer Control Word (49 R418). -/
def controlWordAddr (k : Fin 16) : WordAddr := BitVec.ofNat 17 (0x40 + k.val)

/-- Replace a channel's state. -/
def State.setChannel (s : State) (k : Fin 16) (c : Channel) : State :=
  { s with channels := s.channels.set k.val c k.isLt }

/-- Nothing proceeds: HALT, or the power is off (48 R393, 70 R513). -/
def State.stopped (s : State) : Bool := s.run == .halt || s.run == .off

/-- The word is present for the AIOS: installed and not closed to port 1 (20 R76, R79; log 16). -/
def State.ioPresent (s : State) (w : WordAddr) : Bool :=
  (s.kindOf (moduleOf w)).isSome && !(s.portProtected (moduleOf w) && s.port1 (moduleOf w) == 0#2)

/-- The AIOS may write the word: port 1 access bits 10 or 11 in a port-protected module (20 R76). -/
def State.ioWritable (s : State) (w : WordAddr) : Bool :=
  s.ioPresent w && !(s.portProtected (moduleOf w) && s.port1 (moduleOf w) == 1#2)

/-- An AIOS read of the dedicated location into the Transfer Control Word register: bad parity and a refused access set
the channel's conditions, and a refused access leaves the register (49 R422, R428, R429, 60 R434; log 16). -/
def State.loadControlWord (s : State) (k : Fin 16) (c : Channel) : Channel :=
  let d := controlWordAddr k
  if s.ioPresent d then { c with tcw := s.wordAt d, parityError := c.parityError || s.parityBadAt d }
  else { c with illegalAccess := true }

/-- Where a Transfer Control Word points: F, word address and C, the count above them (49 R426). -/
def transferTarget (t : Word) : Ea :=
  let a : Addr := t.extractLsb' 0 19
  { f := t.getLsbD 19, c := a.c, raw := a, last := none }

/-- The unit of a transfer: there are no doubleword transfers, code 010 counts as a word (49 R426, 93 U26). -/
def transferFormat (t : Word) : Format :=
  match (transferTarget t).format with
  | .byte => .byte
  | .half => .half
  | .word => .word
  | .double => .word

/-- The step of the address: 1, 2 or 4 (49 R427). -/
def transferStep (t : Word) : Addr :=
  match transferFormat t with
  | .byte => 1#19
  | .half => 2#19
  | .word => 4#19
  | .double => 4#19

/-- The updated Transfer Control Word: count down, address up, F unchanged (49 R427). -/
def nextControlWord (t : Word) : Word :=
  (t.extractLsb' 20 12 - 1#12) ++ t.extractLsb' 19 1 ++ (t.extractLsb' 0 19 + transferStep t)

/-- The transfer count, bits 0 to 11 (49 R426). -/
def transferCount (t : Word) : BitVec 12 := t.extractLsb' 20 12

/-- Insert a channel's datum, right-justified, into memory (49 R425). -/
def State.transferIn (s : State) (t : Word) (d : Word) : State :=
  let e := transferTarget t
  match transferFormat t with
  | .byte => s.setByte e.op (d.extractLsb' 0 8)
  | .half => s.setHalf e.op (d.extractLsb' 0 16)
  | .word => s.setWord e.word d
  | .double => s.setWord e.word d

/-- The addressed part of memory, right-justified (49 R425). -/
def State.transferOut (s : State) (t : Word) : Word :=
  let e := transferTarget t
  match transferFormat t with
  | .byte => (s.byteAt e.op).setWidth 32
  | .half => (s.halfAt e.op).setWidth 32
  | .word => s.wordAt e.word
  | .double => s.wordAt e.word

/-- The data cycle of one transfer: memory and the channel after it.  The two conditions of the channel are set here and
nothing but a power-on clears them (49 R425, R428; log 43). -/
def State.moveDatum (s : State) (k : Fin 16) (c : Channel) (dir : Direction) (t : Word) : State :=
  let w := (transferTarget t).word
  match dir with
  | .input =>
    if s.ioWritable w then (s.transferIn t c.data).setChannel k c
    else s.setChannel k { c with illegalAccess := true }
  | .output =>
    if s.ioPresent w then
      s.setChannel k { c with data := s.transferOut t, parityError := c.parityError || s.parityBadAt w }
    else s.setChannel k { c with illegalAccess := true }

/-- The end of a block: a reinitializing channel goes on and requests its service interrupt at once; another stops and
owes the request until its device can accept a new command (49 R429; log 41).  A high-priority channel loads its register
again in the same bus event as the last datum: that no cycle of the CP falls between the two, which 20 R82 does not say,
is the model's choice (DESIGN CHOICE, log 41). -/
def State.endOfBlock (s : State) (k : Fin 16) : State :=
  let c := s.channels[k]
  if c.autoReinit then
    (s.setChannel k (if s.cfg.channels[k].highPriority then s.loadControlWord k c else c)).signal (serviceLevel k)
  else s.setChannel k { c with busy := false, serviceOwed := true }

/-- The cycle that moves the datum under the control word `t`, and what follows from the count (49 R425, R427). -/
def dataCycle (s : State) (k : Fin 16) (dir : Direction) (t : Word) : State :=
  let s1 := s.moveDatum k { s.channels[k] with transfer := none } dir t
  let t' := nextControlWord t
  if transferCount t' = 0#12 then s1.endOfBlock k
  else if s.cfg.channels[k].highPriority then s1.setChannel k { s1.channels[k] with tcw := t' }
  else s1.setChannel k { s1.channels[k] with transfer := some (.moved t') }

/-- The first cycle of a low-priority channel: the Transfer Control Word is read; a refused access ends the transfer
(49 R425, R428; logs 16, 33). -/
def controlCycle (s : State) (k : Fin 16) (dir : Direction) : State :=
  let c := s.channels[k]
  let d := controlWordAddr k
  if s.ioPresent d then
    s.setChannel k { c with
      transfer := some (.located dir (s.wordAt d)), parityError := c.parityError || s.parityBadAt d }
  else s.setChannel k { c with transfer := none, illegalAccess := true }

/-- The last cycle of a low-priority channel: the updated Transfer Control Word is written back (49 R425; log 16). -/
def writeBackCycle (s : State) (k : Fin 16) (t : Word) : State :=
  let c := { s.channels[k] with transfer := none }
  let d := controlWordAddr k
  if s.ioWritable d then (s.setWord d t).setChannel k c
  else s.setChannel k { c with illegalAccess := true }

/-- The next memory cycle of the AIOS for a channel (49 R425, R427, R428). -/
def transferCycle (s : State) (k : Fin 16) : State :=
  match s.channels[k].transfer with
  | none => s
  | some (.requested dir) =>
    if s.cfg.channels[k].highPriority then dataCycle s k dir s.channels[k].tcw else controlCycle s k dir
  | some (.located dir t) => dataCycle s k dir t
  | some (.moved t) => writeBackCycle s k t

/-- The transfer interrupt of the channel is pending and no cycle has answered it. -/
def State.awaits (s : State) (k : Fin 16) : Bool :=
  match s.channels[k].transfer with
  | some (.requested _) => true
  | _ => false

/-- The AIOS may turn to the channel now: a new transfer interrupt is answered in the order of chassis position, which
the actual priorities show; a started one can go on at any time (49 R425, 60 R451; logs 15, 40). -/
def State.mayCycle (s : State) (k : Fin 16) : Bool :=
  !s.awaits k ||
    allChannels.all fun j => !s.awaits j || decide (s.cfg.channels[k].siActual.toNat ≤ s.cfg.channels[j].siActual.toNat)

/-- ProcessTI for a channel with a pending transfer interrupt, all its cycles in a row (49 R425). -/
def processTransfer (s : State) (k : Fin 16) : State := transferCycle (transferCycle (transferCycle s k) k) k

/-- Put a channel into a list by its chassis position, which its actual priority shows (60 R451). -/
def orderInsert (s : State) (k : Fin 16) : List (Fin 16) → List (Fin 16)
  | [] => [k]
  | j :: t =>
    if s.cfg.channels[k].siActual.toNat ≤ s.cfg.channels[j].siActual.toNat then k :: j :: t
    else j :: orderInsert s k t

/-- The channels, highest chassis position first (49 R425). -/
def transferOrder (s : State) : List (Fin 16) := allChannels.foldr (orderInsert s) []

/-- The AIOS answers every pending transfer interrupt (49 R425; log 15). -/
def aios (s : State) : State :=
  if allChannels.any fun k => s.channels[k].transfer.isSome then (transferOrder s).foldl processTransfer s else s

/-! ## The memory bus -/

/-- A channel asks for a transfer while its block is in progress and no earlier request of it is pending
(49 R422, R425; log 36). -/
def State.askTransfer (s : State) (k : Fin 16) (dir : Direction) (data : Word) : State :=
  if s.channelInstalled k && s.channels[k].busy && s.channels[k].transfer.isNone then
    s.setChannel k { s.channels[k] with transfer := some (.requested dir), data := data }
  else s

/-- A word of a status snapshot, written through the AIOS (49 R420, R421; log 34). -/
def State.snapshotWord (s : State) (k : Fin 16) (wa : WordAddr) (v : Word) : State :=
  if !s.channelInstalled k then s
  else if s.ioWritable wa then s.setWord wa v
  else s.setChannel k { s.channels[k] with illegalAccess := true }

/-- What happens on the bus.  In HALT and without power the AIOS makes no cycle: a snapshot word that comes then is lost
(48 R393, 92 D38; log 34). -/
def applyBus (s : State) : BusEvent → State
  | .input k datum => s.askTransfer k .input datum
  | .output k => s.askTransfer k .output s.channels[k].data
  | .cycle k => if s.stopped || !s.mayCycle k then s else transferCycle s k
  | .snapshot k wa v => if s.stopped then s else s.snapshotWord k wa v

/-- The CP is about to make a memory cycle: first comes what happens on the bus before it (20 R73, R82; log 15). -/
def State.tick (s : State) : State :=
  match s.within with
  | [] => s
  | es :: rest => es.foldl applyBus { s with within := rest }

end Sys2Proof.Machine
end

