-- ==== Sys2Proof/Machine/Ops.lean ====
section
/-!
DEFINITION. What an instruction is made of: the CP's memory cycles and their checks, the effective address, what an
instruction can end in; taking an exception, and the return from one.

Every operation that makes memory cycles answers the state after them as well: the bus acts between them (20_memory.md
R82).
-/

namespace Sys2Proof.Machine

/-! ## What an instruction can end in -/

/-- The four traps (60_exceptions.md R432). -/
inductive Trap where
  /-- Level 12H. -/
  | memoryParity
  /-- Level 24H. -/
  | nonPresentMemory
  /-- Level 25H. -/
  | undefinedInstruction
  /-- Level 26H. -/
  | privilegeViolation
deriving DecidableEq, Repr

/-- The level of a trap (60 R431). -/
def Trap.level : Trap → Level
  | .memoryParity => 0x12#7
  | .nonPresentMemory => 0x24#7
  | .undefinedInstruction => 0x25#7
  | .privilegeViolation => 0x26#7

/-- Why an instruction does not simply complete. -/
inductive Stop where
  /-- A trap, with the state that it leaves: the effects of the instruction are discarded, those of the bus stay
  (60 R432); LB to LD keep what they have loaded (60 R433), and so does LF (40 R180, 92 D28; log 18). -/
  | trap (t : Trap) (s : State)
  /-- The indirect chain has not ended after CHAIN_LIMIT words (70 R504). -/
  | hang (s : State)
  /-- The spec gives no effect. -/
  | fault (f : Fault)
deriving DecidableEq, Repr

/-- The result of a part of an instruction. -/
abbrev Act (α : Type) := Except Stop α

/-- A privileged instruction's first check (00 R11, 60 R437 (a)). -/
def privilegedOnly (s : State) : Act Unit :=
  if s.unprivileged then .error (.trap .privilegeViolation s) else .ok ()

/-! ## Memory cycles (20_memory.md R73, R78) -/

/-- The first check of every access (20 R74, R76). -/
def checkPresent (s : State) (w : WordAddr) : Act Unit :=
  if !s.present w then .error (.trap .nonPresentMemory s) else .ok ()

/-- May the processor write the word: presence, port access, page protection (20 R78). -/
def checkWrite (s : State) (w : WordAddr) : Act Unit :=
  if !s.present w then .error (.trap .nonPresentMemory s)
  else if s.portReadOnly w then .error (.trap .privilegeViolation s)
  else if s.notPrivileged && s.pageLocked w then .error (.trap .privilegeViolation s)
  else .ok ()

/-- The cycle that reads a word: its parity is checked (60 R434). -/
def readCycle (s : State) (w : WordAddr) : Act State :=
  let u := s.tick
  if u.parityBadAt w then .error (.trap .memoryParity u) else .ok u

/-- MemRead of one word (00 R13). -/
def readWord (s : State) (w : WordAddr) : Act (Word × State) := do
  checkPresent s w
  let u ← readCycle s w
  return (u.wordAt w, u)

/-- MemRead of one byte (00 R13). -/
def readByte (s : State) (a : Addr) : Act (Byte × State) := do
  checkPresent s a.wordAddr
  let u ← readCycle s a.wordAddr
  return (u.byteAt a, u)

/-- The cycle that writes a word. -/
def State.writeWord (s : State) (w : WordAddr) (v : Word) : State := s.tick.setWord w v

/-- The cycle that replaces one byte of a word (20 R73). -/
def State.writeByte (s : State) (a : Addr) (b : Byte) : State := s.tick.setByte a b

/-- The cycle that replaces one halfword of a word (20 R73). -/
def State.writeHalf (s : State) (a : Addr) (h : Half) : State := s.tick.setHalf a h

/-- The two cycles that write a doubleword, the low word first (20 R73, 40 R163). -/
def State.writeDouble (s : State) (w : WordAddr) (v : DWord) : State :=
  (s.writeWord (oddWord w) (v.extractLsb' 0 32)).writeWord (evenWord w) (v.extractLsb' 32 32)

/-! ## The effective address (20_memory.md R66) -/

/-- The address of one level after indexing, modulo 2^19 (20 R65). -/
def State.indexed (s : State) (m : MemRef) : Addr :=
  if m.x = 0#2 then m.addr else m.addr + (s.reg (0#1 ++ m.x)).extractLsb' 0 19

/-- Follow indirect words from address `a` with the format code so far; at most `fuel` of them (70 R504). -/
def chase : Nat → Bool → BitVec 2 → Addr → State → Act (Ea × State)
  | 0, _, _, _, s => .error (.hang s)
  | fuel + 1, f, c, a, s => do
    let (w, s) ← readWord s a.wordAddr
    let m := MemRef.ofWord w
    let a' := s.indexed m
    let keep := !m.f && a'.c == 0#2
    let f' := if keep then f else m.f
    let c' := if keep then c else a'.c
    if m.ind then chase fuel f' c' a' s else .ok ({ f := f', c := c', raw := a', last := some w }, s)

/-- The effective-address function, with the state after the memory cycles it takes (20 R66). -/
def effAddr (s : State) (m : MemRef) : Act (Ea × State) :=
  let a := s.indexed m
  if m.ind then chase s.cfg.chainLimit m.f a.c a s
  else .ok ({ f := m.f, c := a.c, raw := a, last := none }, s)

/-! ## Taking an exception and returning from one -/

/-- The dedicated address of a level, in its interrupt or trap form (60 R443). -/
def dedicatedAddr (n : Level) (trapForm : Bool) : Addr :=
  BitVec.ofNat 19 <|
    if n.toNat = 0x00 then (if trapForm then 0x0F0 else 0x0F4)
    else if n.toNat = 0x01 then (if trapForm then 0x0F8 else 0x0FC)
    else if n.toNat = 0x12 then 0x0E8
    else if n.toNat = 0x13 then 0x0EC
    else if n.toNat ≤ 0x11 then 0x100 + 4 * (n.toNat - 0x02)
    else if n.toNat ≤ 0x23 then 0x140 + 4 * (n.toNat - 0x14)
    else 0x190 + 4 * (n.toNat - 0x24)

/-- The word address L that a dedicated word names: bits 13 to 29 alone (60 R444). -/
def saveLocation (w : Word) : WordAddr := w.extractLsb' 2 17

/-- Enter(n, form): the dedicated word is read, the PSWR goes to L, request[n] is cleared, active[n] and PSWR bit 0 are
set, the program count becomes L + 1, the run state RUN, the shield is set (60 R447).  CC and bits 5 to 12 stay
(92 D10). -/
def enter (s : State) (n : Level) (trapForm : Bool) : Except Fault State :=
  let d := (dedicatedAddr n trapForm).wordAddr
  let u := s.tick
  if !s.present d || u.parityBadAt d then .error .entryDedicatedWord
  else
    let l := saveLocation (u.wordAt d)
    if !s.present l || s.portReadOnly l then .error .entrySaveLocation
    else
      let v := u.writeWord l s.psw.word
      .ok { v with
        request := setLevel v.request n false
        active := setLevel s.active n true
        psw := { s.psw with priv := true, pc := (l + 1#17) ++ 0#1 }
        run := .run
        shield := true
        hung := false }

/-- The outcome of an entry. -/
def entered (r : Except Fault State) : Host.Outcome State Fault Refusal :=
  match r with
  | .ok t => .next t
  | .error f => .fault f

/-- `raise T` at an instruction of `len` halfwords, the program count still at it: entry if the level is enabled and
nothing blocks it, else the instruction is a No Operation, and for bad parity the indicator lights (60 R432). -/
def raise (t : Trap) (len : BitVec 18) (s : State) : Host.Outcome State Fault Refusal :=
  if hasLevel s.enabled t.level && !s.blocked t.level then entered (enter s t.level true)
  else .next { s.advance len with errorIndicator := s.errorIndicator || t == .memoryParity }

/-- The trap form of levels 00H and 01H is usable: OPT_RTM and the keylock not OFF (60 R452). -/
def State.trapFormUsable (s : State) : Bool := s.cfg.optRtm && s.keylock != .off

/-- The trap form of this system protect level breaks an endless chain now (70 R504). -/
def State.overrides (s : State) (n : Level) : Bool := hasLevel s.request n && s.trapFormUsable && !s.blocked n

/-- An instruction caught in an endless chain: the trap form of level 00H or 01H, else no progress (70 R504). -/
def endlessChain (s : State) : Host.Outcome State Fault Refusal :=
  if s.overrides 0x00#7 then entered (enter s 0x00#7 true)
  else if s.overrides 0x01#7 then entered (enter s 0x01#7 true)
  else .next { s with hung := true }

/-- The end of an instruction of `len` halfwords that began with the program count at `pc` (00 R14, R16; 60 R432,
R433): a trap or a hang finds the program count at the instruction. -/
def complete (len : BitVec 18) (pc : BitVec 18) (r : Act State) : Host.Outcome State Fault Refusal :=
  match r with
  | .ok t => .next t
  | .error (.trap t u) => raise t len (u.setPc pc)
  | .error (.hang u) => endlessChain (u.setPc pc)
  | .error (.fault f) => .fault f

/-- Run a word instruction: the program count is advanced first (00 R16). -/
def runWord (op : State → Act State) (s : State) : Host.Outcome State Fault Refusal :=
  complete 2#18 s.psw.pc (op (s.advance 2#18))

/-- Run a halfword instruction: the program count is advanced first (00 R16). -/
def runHalf (op : State → Act State) (s : State) : Host.Outcome State Fault Refusal :=
  complete 1#18 s.psw.pc (op (s.advance 1#18))

/-- The return from an interrupt routine, with the effective address formed: the active level of highest priority is
reset; with an indirect word PSWR bits 0 to 12 are replaced; the program count is the raw address (45 R324). -/
def returnFromInterrupt (s : State) (e : Ea) : State :=
  let t := s.resetHighestActive
  let psw := match e.last with
    | some w => { t.psw.loadStatus w with priv := w.getLsbD 31 }
    | none => t.psw
  { t with psw := { psw with pc := e.raw.extractLsb' 1 18 } }

end Sys2Proof.Machine
end

