-- ==== Sys2Proof/Machine/Flags.lean ====
section
/-!
DEFINITION. The condition code computations (00_scope.md R15, 41_fixed_point.md R191, 44_bit_manipulation.md R281,
45_compare_branch.md R300, R316 to R318).
-/

namespace Sys2Proof.Machine

/-- CC1 as given, CC2 to CC4 by `SCC(v)` (00 R15). -/
def scc {n : Nat} (cc1 : Bool) (v : BitVec n) : CC :=
  { cc1 := cc1, cc2 := decide (0 < v.toInt), cc3 := decide (v.toInt < 0), cc4 := v == 0#n }

/-- CC2 and CC4 of a field tested as an unsigned quantity, CC1 and CC3 zero (43 R251). -/
def fieldCC {n : Nat} (v : BitVec n) : CC := { cc1 := false, cc2 := v != 0#n, cc3 := false, cc4 := v == 0#n }

/-- `AddOvf_n(x, y)`: same signs, another sign of the sum (41 R191). -/
def addOverflow {n : Nat} (x y : BitVec n) : Bool := x.msb == y.msb && (x + y).msb != x.msb

/-- `SubOvf_n(x, y)`: different signs, another sign of the difference than the minuend's (41 R191). -/
def subOverflow {n : Nat} (x y : BitVec n) : Bool := x.msb != y.msb && (x - y).msb != x.msb

/-- `ACmp(x, y)` on signed patterns (45 R300 (a)). -/
def arithmeticCompare {n : Nat} (x y : BitVec n) : CC :=
  { cc1 := false, cc2 := decide (y.toInt < x.toInt), cc3 := decide (x.toInt < y.toInt), cc4 := x == y }

/-- `MCmp(v)` (45 R300 (b)). -/
def maskedCompare {n : Nat} (v : BitVec n) : CC := { cc1 := false, cc2 := false, cc3 := false, cc4 := v == 0#n }

/-- `CCShift(b)`: the old CC1 to CC3 move to CC2 to CC4, the bit goes to CC1 (44 R281). -/
def shiftInto (c : CC) (b : Bool) : CC := { cc1 := b, cc2 := c.cc1, cc3 := c.cc2, cc4 := c.cc3 }

/-- The condition a D field of 1 to 7 names (45 R316); D = 0 completes the table as "always". -/
def conditionTrue (c : CC) (d : BitVec 3) : Bool :=
  match d.toNat with
  | 1 => c.cc1
  | 2 => c.cc2
  | 3 => c.cc3
  | 4 => c.cc4
  | 5 => c.cc2 || c.cc4
  | 6 => c.cc3 || c.cc4
  | 7 => c.cc1 || c.cc2 || c.cc3 || c.cc4
  | _ => true

/-- The function bit of R4 for the current condition code: bit 16 + m (45 R318). -/
def functionTrue (mask : Word) (c : CC) : Bool := bitAt mask (16 + c.bits.toNat)

/-- Write CC1 to CC4, and request the arithmetic exception if CC1 reports one (60 R440). -/
def State.finishArithmetic (s : State) (c : CC) : State := (s.setCC c).requestArithmetic c.cc1

end Sys2Proof.Machine
end

