-- ==== Sys2Proof/Machine/Operands.lean ====
section
/-!
DEFINITION. The operand forms: byte, halfword, word and doubleword of memory as the effective format code selects them
(20_memory.md R63, R70 to R72), immediates, register operands and their extensions.
-/

namespace Sys2Proof.Machine

/-- An operand extended to the width of a register or of a register pair (41 R190). -/
inductive Wide where
  /-- For one register. -/
  | one (w : Word)
  /-- For an even-odd pair. -/
  | two (d : DWord)
deriving DecidableEq, Repr

/-- `zext_8` (00 R12). -/
def zextByte (b : Byte) : Word := b.setWidth 32

/-- `sext_16` (00 R12). -/
def sextHalf (h : Half) : Word := h.signExtend 32

/-- The state after the cycles that read an operand: one for a byte, halfword or word, two for a doubleword (20 R73). -/
def State.afterRead (s : State) (e : Ea) : State :=
  match e.format with
  | .double => s.tick.tick
  | .byte => s.tick
  | .half => s.tick
  | .word => s.tick

/-- The operand as its cycles read it: of a doubleword the odd word first (20 R73, 42 R236). -/
def State.seen (s : State) (e : Ea) : Datum :=
  match e.format with
  | .double => .double (s.tick.tick.wordAt (evenWord e.word) ++ s.tick.wordAt (oddWord e.word))
  | .byte => .byte (s.tick.byteAt e.op)
  | .half => .half (s.tick.halfAt e.op)
  | .word => .word (s.tick.wordAt e.word)

/-- A cycle that reads the operand meets bad parity: all four bytes of each word are checked (60 R434). -/
def State.seenBad (s : State) (e : Ea) : Bool :=
  match e.format with
  | .double => s.tick.parityBadAt (oddWord e.word) || s.tick.tick.parityBadAt (evenWord e.word)
  | .byte => s.tick.parityBadAt e.word
  | .half => s.tick.parityBadAt e.word
  | .word => s.tick.parityBadAt e.word

/-- MemRead of an operand.  Both words of a doubleword lie in one module (20 R70, R78; log 38). -/
def fetch (s : State) (e : Ea) : Act (Datum × State) := do
  checkPresent s e.word
  if s.seenBad e then .error (.trap .memoryParity (s.afterRead e))
  else .ok (s.seen e, s.afterRead e)

/-- The cycles that put an operand into memory; full words get good parity (92 D29). -/
def State.write (s : State) (e : Ea) (d : Datum) : State :=
  match d with
  | .byte b => s.writeByte e.op b
  | .half h => s.writeHalf e.op h
  | .word w => s.writeWord e.word w
  | .double v => s.writeDouble e.word v

/-- MemWrite of an operand: the checks come before anything is written (20 R78). -/
def store (s : State) (e : Ea) (d : Datum) : Act State := do
  checkWrite s e.word
  return s.write e d

/-- The read of a read-modify-write instruction: the protection check precedes the read (41 R198, 20 R78). -/
def fetchForUpdate (s : State) (e : Ea) : Act (Datum × State) := do
  checkWrite s e.word
  fetch s e

/-- A byte with 24 zeros, a halfword sign-extended, a word or doubleword as it is (41 R190). -/
def Datum.extend : Datum → Wide
  | .byte b => .one (zextByte b)
  | .half h => .one (sextHalf h)
  | .word w => .one w
  | .double d => .two d

/-- What a store of a format takes from the register or register pair: right-justified (20 R71). -/
def State.storeDatum (s : State) (r : Reg) : Format → Datum
  | .byte => .byte ((s.reg r).extractLsb' 0 8)
  | .half => .half ((s.reg r).extractLsb' 0 16)
  | .word => .word (s.reg r)
  | .double => .double (s.pair r)

/-- AND with the mask register, or with its low byte or halfword; each word of a doubleword alike (40 R147 to R150,
R164 to R167). -/
def Datum.masked (m : Word) : Datum → Datum
  | .byte b => .byte (b &&& m.extractLsb' 0 8)
  | .half h => .half (h &&& m.extractLsb' 0 16)
  | .word w => .word (w &&& m)
  | .double d => .double (d &&& (m ++ m))

/-- AND of an extended operand with the mask register (40 R147 to R150). -/
def Wide.masked (m : Word) : Wide → Wide
  | .one w => .one (w &&& m)
  | .two d => .two (d &&& (m ++ m))

/-- The zero of a format (40 R170 to R173). -/
def Format.zero : Format → Datum
  | .byte => .byte 0#8
  | .half => .half 0#16
  | .word => .word 0#32
  | .double => .double 0#64

/-- Write a result to R[r] or to the pair r names, with CC1 as given and `SCC` of the result. -/
def State.deliver (s : State) (r : Reg) (cc1 : Bool) : Wide → State
  | .one w => (s.setReg r w).finishArithmetic (scc cc1 w)
  | .two d => (s.setPair r d).finishArithmetic (scc cc1 d)

/-- The byte that a bit-in-memory instruction addresses: word address plus C, whatever F is (44 R280; for F = 0 the
spec's own choice, log 47). -/
def bitByte (e : Ea) : Addr := e.op

/-- The bit position in its word of bit `n` of byte `y` (44 R280). -/
def bitPosition (n : BitVec 3) (y : BitVec 2) : Nat := 8 * y.toNat + n.toNat

/-- A word whose only one is at a bit position in the manual's numbering. -/
def bitWord (p : Nat) : Word := 1#32 <<< (31 - p)

/-- A byte whose only one is at a bit position in the manual's numbering. -/
def bitOfByte (n : BitVec 3) : Byte := 1#8 <<< (7 - n.toNat)

end Sys2Proof.Machine
end

