-- ==== Sys2Proof/Machine/InterruptIo.lean ====
section
/-!
DEFINITION. The interrupt control and input/output instructions (49_interrupt_io.md).
-/

namespace Sys2Proof.Machine

/-- The levels EI and DI operate on: 12H to 7FH, present (49 R411). -/
def State.enableable (s : State) (n : Level) : Bool := decide (0x12 ≤ n.toNat) && s.levelPresent n

/-- The levels RI, AI and DAI operate on: 12H to 7FH, present (49 R411), and levels 00H and 01H in an installation
whose program can reach them (49 R411, R414 to R416 against 60 R452, R453; log 27). -/
def State.controllable (s : State) (n : Level) : Bool :=
  (decide (n.toNat ≤ 0x01) && s.cfg.protectLevelsByProgram || decide (0x12 ≤ n.toNat)) && s.levelPresent n

/-- The channel, by its place in Table 3-2, whose address range holds a device number (49 R418). -/
def channelOfDevice (d : BitVec 7) : Fin 16 :=
  if d.toNat < 0x10 then Fin.ofNat 16 (d.toNat / 4)
  else if d.toNat < 0x20 then Fin.ofNat 16 (4 + (d.toNat - 0x10) / 8)
  else if d.toNat < 0x70 then Fin.ofNat 16 (6 + (d.toNat - 0x20) / 16)
  else if d.toNat < 0x78 then 11
  else Fin.ofNat 16 (12 + (d.toNat - 0x78) / 2)

/-- The CP side of a command: it is held in the channel; bit 16 of the instruction starts a block, bits 16 and 17
together with automatic reinitialization, bit 17 alone ends a reinitializing sequence (49 R419, R422, R429).  A transfer
of the channel that is pending or between its cycles is left as it is (DESIGN CHOICE, log 31). -/
def State.command (s : State) (k : Fin 16) (cmd : Command) : Channel :=
  let c := { s.channels[k] with command := some cmd }
  if bitAt cmd.code 0 then
    let c := if s.cfg.channels[k].highPriority then s.loadControlWord k c else c
    { c with busy := true, autoReinit := bitAt cmd.code 1 }
  else if bitAt cmd.code 1 then { c with autoReinit := false }
  else c

/-- EI (49 R412). -/
def opEi (n : Level) (s : State) : Act State := do
  privilegedOnly s
  return if s.enableable n then { s with enabled := setLevel s.enabled n true } else s

/-- EI as an instruction of the program. -/
def execEi (n : Level) (s : State) : Host.Outcome State Fault Refusal :=
  runWord (opEi n) s

/-- DI (49 R413). -/
def opDi (n : Level) (s : State) : Act State := do
  privilegedOnly s
  return if s.enableable n then
      { s with enabled := setLevel s.enabled n false, request := setLevel s.request n false }
    else s

/-- DI as an instruction of the program. -/
def execDi (n : Level) (s : State) : Host.Outcome State Fault Refusal :=
  runWord (opDi n) s

/-- RI (49 R414). -/
def opRi (n : Level) (s : State) : Act State := do
  privilegedOnly s
  return if s.controllable n then s.requestLevel n else s

/-- RI as an instruction of the program. -/
def execRi (n : Level) (s : State) : Host.Outcome State Fault Refusal :=
  runWord (opRi n) s

/-- AI (49 R415). -/
def opAi (n : Level) (s : State) : Act State := do
  privilegedOnly s
  return if s.controllable n then { s with active := setLevel s.active n true } else s

/-- AI as an instruction of the program. -/
def execAi (n : Level) (s : State) : Host.Outcome State Fault Refusal :=
  runWord (opAi n) s

/-- DAI (49 R416). -/
def opDai (n : Level) (s : State) : Act State := do
  privilegedOnly s
  return if s.controllable n then { s with active := setLevel s.active n false } else s

/-- DAI as an instruction of the program. -/
def execDai (n : Level) (s : State) : Host.Outcome State Fault Refusal :=
  runWord (opDai n) s

/-- CD: no effect where no channel answers (49 R419). -/
def opCd (device : BitVec 7) (code : BitVec 16) (s : State) : Act State := do
  privilegedOnly s
  let k := channelOfDevice device
  return if s.channelInstalled k then s.setChannel k (s.command k ⟨device, code⟩) else s

/-- CD as an instruction of the program. -/
def execCd (device : BitVec 7) (code : BitVec 16) (s : State) : Host.Outcome State Fault Refusal :=
  runWord (opCd device code) s

/-- TD: the answer of an installed channel is a free value, that of none is 0000 (49 R420). -/
def opTd (device : BitVec 7) (code : BitVec 16) (s : State) : Act State := do
  privilegedOnly s
  return if s.channelInstalled (channelOfDevice device) then
      (s.setCC (CC.ofBits (Config.deviceReply s.draws device code))).drawn
    else s.setCC (CC.ofBits 0#4)

/-- TD as an instruction of the program. -/
def execTd (device : BitVec 7) (code : BitVec 16) (s : State) : Host.Outcome State Fault Refusal :=
  runWord (opTd device code) s

end Sys2Proof.Machine
end

