-- ==== Sys2Proof/Machine/Events.lean ====
section
/-!
DEFINITION. The events that arrive between two instructions (00_scope.md R17, 70_reset_and_hazards.md R491 to R493,
R513; log 14).
-/

namespace Sys2Proof.Machine

/-- "Console Disabled": the operator actions but the two keyswitches are refused (70 R492). -/
def State.consoleLocked (s : State) : Bool := s.cfg.optRtm && s.keylock == .consoleDisabled

/-- The operator may write registers and memory: in HALT, the console not locked (70 R491 (b)). -/
def State.operatorMayWrite (s : State) : Bool := s.run == .halt && !s.consoleLocked

/-- Power returns: memory and its parity stay; what 10 R57 fixes is fixed, the rest, the held commands and conditions of
the channels among it, is as the event brings it (70 R491 (a), R493; log 32). -/
def State.powerOn (s : State) (regs : Vector Word 8) (psw : Psw) (protect : Vector (BitVec 24) 16)
    (channels : Vector Channel 16) (timer : Word) (lamp : Bool) : State :=
  { s with
    regs := regs
    psw := { psw with priv := true }
    protect := protect
    enabled := 0#128
    request := 1#128
    active := 0#128
    shield := false
    semi := false
    keyswitchPending := true
    run := .run
    errorIndicator := lamp
    intervalTimer := timer
    channels := channels.map fun c => { c with busy := false, transfer := none }
    hung := false }

/-- One down count of the interval timer; zero requests the timer's level (10 R47, 60 R470). -/
def State.timerDown (s : State) : State :=
  let v := s.intervalTimer - 1#32
  let t := { s with intervalTimer := v }
  if v = 0#32 then t.signal s.cfg.timerLevel else t

/-- What an event does to the machine.  The model's choices: the operator's halt is taken in WAIT too (log 45); bit 0 as
the operator writes it stands although the keyswitch is still to be adopted (log 46); which actions the console lock
refuses (log 30). -/
def applyEvent (s : State) : Event → State
  | .bus b => applyBus s b
  | .external n => if 0x2A ≤ n.toNat then s.signal n else s
  | .console => if s.consoleLocked then s else s.signal 0x13#7
  | .clockTick => s.signal 0x28#7
  | .override => s.signal 0x01#7
  | .powerOff => s.signal 0x00#7
  | .powerLost => { s with run := .off }
  | .powerOn regs psw protect channels timer lamp => s.powerOn regs psw protect channels timer lamp
  | .service k =>
    if s.channelInstalled k then
      (s.setChannel k { s.channels[k] with serviceOwed := false }).signal (serviceLevel k)
    else s
  | .commandTaken k => s.setChannel k { s.channels[k] with command := none }
  | .parityFault wa => s.spoilParity wa
  | .timerLoad v => if s.cfg.optTimer then { s with intervalTimer := v } else s
  | .timerCount => if s.cfg.optTimer then s.timerDown else s
  | .operatorHalt => if s.consoleLocked || s.run == .off then s else { s with run := .halt, hung := false }
  | .operatorRun => if s.operatorMayWrite then { s with run := .run } else s
  | .operatorRegister r v => if s.operatorMayWrite then s.setReg r v else s
  | .operatorMemory wa v => if s.operatorMayWrite && (s.kindOf (moduleOf wa)).isSome then s.setWord wa v else s
  | .operatorPsw v => if s.operatorMayWrite then { s with psw := s.psw.loadAll v } else s
  | .controlSwitches v => if s.consoleLocked then s else { s with controlSwitches := v }
  | .keyswitch p =>
    if s.cfg.optRtm then
      { s with keyswitch := p, keyswitchPending := true, psw := { s.psw with priv := true } }
    else s
  | .keylock p => if s.cfg.optRtm then { s with keylock := p } else s

/-- What arrives before the service check.  With nothing listed the AIOS has answered every pending transfer interrupt,
unless the machine is stopped; else it makes the cycles listed (49 R425, 48 R393; logs 14, 15). -/
def arrivals (s : State) : State :=
  match s.inputs with
  | [] => if s.stopped then { s with within := [] } else { aios s with within := [] }
  | a :: rest => a.before.foldl applyEvent { s with inputs := rest, within := a.within }

end Sys2Proof.Machine
end

