-- ==== Sys2Proof/Machine/Cycle.lean ====
section
/-!
DEFINITION. What the processor does around an instruction: the service check before it, the keyswitch adoption, the
fetch of its bytes (60_exceptions.md R454, R461, 20_memory.md R85, 70_reset_and_hazards.md R507).
-/

namespace Sys2Proof.Machine

/-- The set C of ServiceCheck: requested, enabled (00H and 01H always are), not a transfer interrupt, not blocked
(60 R454). -/
def State.serviceable (s : State) (n : Level) : Bool :=
  hasLevel s.request n && (hasLevel s.enabled n || decide (n.toNat ≤ 0x01)) && s.levelPresent n
    && (decide (n.toNat < 0x02) || decide (0x11 < n.toNat)) && !s.blocked n

/-- ServiceCheck: nothing in HALT or without power, under the shield or inside an unfinished instruction; else the
serviceable level of highest priority is entered in its interrupt form (60 R454, R455; the unfinished instruction: log
20). -/
def serviceCheck (s : State) : Except Fault State :=
  if s.stopped || s.shield || s.hung then .ok s
  else
    match s.highest (allLevels.filter s.serviceable) with
    | some n => enter s n false
    | none => .ok s

/-- The first instruction fetched from an unprotected page adopts the keyswitch position (60 R461). -/
def adoptKeyswitch (s : State) : State :=
  if s.keyswitchPending && s.cfg.optRtm && !s.pageLocked s.pcWord then
    match s.keyswitch with
    | .privileged => { s with keyswitchPending := false, semi := false, psw := { s.psw with priv := true } }
    | .semiPrivileged => { s with keyswitchPending := false, semi := true, psw := { s.psw with priv := false } }
    | .unprivileged => { s with keyswitchPending := false, semi := false, psw := { s.psw with priv := false } }
  else s

/-- The bytes of the instruction at the program count: the whole word, or the right halfword alone (70 R507). -/
def instructionBytes (s : State) : List Byte :=
  if s.pcRight then halfBytes ((s.wordAt s.pcWord).extractLsb' 0 16) else wordBytes (s.wordAt s.pcWord)

/-- The length in halfwords of an undefined operation code: one in a right halfword, whatever its form, since a word
instruction cannot begin there; else bit 0 of the halfword tells (92 D3, 93 U9, 60 R432; log 26). -/
def instructionLength (s : State) : BitVec 18 :=
  if s.pcRight then 1#18
  else
    match instructionBytes s with
    | b :: _ => if b.msb then 2#18 else 1#18
    | [] => 1#18

/-- The distance to the first halfword of the next word, by which a fault on the fetch itself advances
(92 D15; log 39). -/
def toNextWord (s : State) : BitVec 18 := if s.pcRight then 1#18 else 2#18

/-- The shield and the mark of an unfinished instruction end when an instruction is executed or trapped (60 R455). -/
def begun (s : State) : State := { s with shield := false, hung := false }

/-- What a step comes to after everything that stands before an instruction. -/
inductive Ready where
  /-- No instruction executes: HALT, WAIT or no power. -/
  | idle (s : State)
  /-- An interrupt entry met an undefined case. -/
  | stopped (f : Fault)
  /-- The instruction traps before it is executed. -/
  | trapped (t : Trap) (len : BitVec 18) (s : State)
  /-- The instruction to execute, the program count at it. -/
  | run (i : Instr) (s : State)

/-- Fetch and decode the instruction at the program count: presence, parity, keyswitch, operation code
(60_exceptions.md R457 (a), R461). -/
def fetchInstruction (s : State) : Ready :=
  if !s.present s.pcWord then .trapped .nonPresentMemory (toNextWord s) (begun s)
  else
    let u := s.tick
    if u.parityBadAt u.pcWord then .trapped .memoryParity (toNextWord u) (begun u)
    else
      match decode (instructionBytes u) with
      | .ok i => .run i (begun (adoptKeyswitch u))
      | .error _ => .trapped .undefinedInstruction (instructionLength u) (begun (adoptKeyswitch u))

/-- The service check, then the fetch if the machine is running. -/
def serviceAndFetch (s : State) : Ready :=
  match serviceCheck s with
  | .error f => .stopped f
  | .ok t => if t.run == .run then fetchInstruction t else .idle t

/-- Everything of a step that stands before the instruction. -/
def prepare (s : State) : Ready := serviceAndFetch (arrivals s)

/-- Place an instruction where the next step fetches: no event waits, the machine runs, a word instruction gets a word
boundary, and the word there is replaced with good parity (log 7). -/
def placeInstruction (s : State) (nbits w : Nat) : State :=
  let pc := if nbits ≤ 16 then s.psw.pc else s.psw.pc.extractLsb' 1 17 ++ 0#1
  let s1 := { s with inputs := [], run := .run, psw := { s.psw with pc := pc } }
  let t := match serviceCheck (arrivals s1) with
    | .ok t => t
    | .error _ => s1
  let word : Word :=
    if nbits ≤ 16 then
      if t.pcRight then (s1.wordAt t.pcWord).extractLsb' 16 16 ++ BitVec.ofNat 16 w
      else BitVec.ofNat 16 w ++ 0#16
    else BitVec.ofNat 32 w
  s1.setWord t.pcWord word

end Sys2Proof.Machine
end

