-- ==== Sys2Proof/Machine/Load.lean ====
section
/-!
DEFINITION. The load instructions (40_load_store.md).
-/

namespace Sys2Proof.Machine

/-- Form the effective address, read the operand, go on with it (40 R140, R141). -/
def withOperand (m : MemRef) (f : State → Datum → Act State) (s : State) : Act State := do
  let (e, s) ← effAddr s m
  let (d, s) ← fetch s e
  f s d

/-- LB to LD: bad operand parity does not stop the register from being loaded (40 R143 to R146, 60 R433). -/
def loadOp (r : Reg) (m : MemRef) (s : State) : Act State := do
  let (e, s) ← effAddr s m
  checkPresent s e.word
  let t := (s.afterRead e).deliver r false (s.seen e).extend
  if s.seenBad e then .error (.trap .memoryParity t) else .ok t

/-- LMB to LMD: the operand is ANDed with R4 (40 R147 to R150). -/
def loadMaskedOp (r : Reg) (m : MemRef) (s : State) : Act State :=
  withOperand m (fun s d => .ok (s.deliver r false (d.extend.masked s.mask))) s

/-- The two's complement of a value to R[r] or the pair; minus full scale is the arithmetic exception
(40 R151 to R154). -/
def State.deliverNegative (s : State) (r : Reg) : Wide → State
  | .one v => s.deliver r (v == minusFullScale 32) (.one (-v))
  | .two v => s.deliver r (v == minusFullScale 64) (.two (-v))

/-- LNB to LND (40 R151 to R154). -/
def loadNegativeOp (r : Reg) (m : MemRef) (s : State) : Act State :=
  withOperand m (fun s d => .ok (s.deliverNegative r d.extend)) s

/-- The eight registers in order. -/
def allRegs : List Reg := [0#3, 1#3, 2#3, 3#3, 4#3, 5#3, 6#3, 7#3]

/-- The registers R[r] to R[7] of a file transfer (40 R180). -/
def fileRegs (r : Reg) : List Reg := allRegs.filter fun n => r.toNat ≤ n.toNat

/-- The word that belongs to R[n] in a file transfer from R[r] at word `w`: the low three address bits wrap
(40 R180, 92 D28). -/
def fileWord (w : WordAddr) (r n : Reg) : WordAddr := w.extractLsb' 3 14 ++ (w.extractLsb' 0 3 + (n - r))

/-- Load each register of a list from its word; bad parity of a later word leaves the earlier registers loaded
(40 R180, 92 D28), where 60 R433 has LF change nothing (DEDUCED, log 18). -/
def loadFile (w : WordAddr) (r : Reg) : List Reg → State → Act State
  | [], s => .ok s
  | n :: ns, s => do
    let u ← readCycle s (fileWord w r n)
    loadFile w r ns (u.setReg n (u.wordAt (fileWord w r n)))

/-- LB (40 R144). -/
def opLb (r : Reg) (m : MemRef) (s : State) : Act State := loadOp r m s

/-- LB as an instruction of the program. -/
def execLb (r : Reg) (m : MemRef) (s : State) : Host.Outcome State Fault Refusal :=
  runWord (opLb r m) s

/-- LH (40 R145). -/
def opLh (r : Reg) (m : MemRef) (s : State) : Act State := loadOp r m s

/-- LH as an instruction of the program. -/
def execLh (r : Reg) (m : MemRef) (s : State) : Host.Outcome State Fault Refusal :=
  runWord (opLh r m) s

/-- LW (40 R146). -/
def opLw (r : Reg) (m : MemRef) (s : State) : Act State := loadOp r m s

/-- LW as an instruction of the program. -/
def execLw (r : Reg) (m : MemRef) (s : State) : Host.Outcome State Fault Refusal :=
  runWord (opLw r m) s

/-- LD (40 R143). -/
def opLd (r : Reg) (m : MemRef) (s : State) : Act State := loadOp r m s

/-- LD as an instruction of the program. -/
def execLd (r : Reg) (m : MemRef) (s : State) : Host.Outcome State Fault Refusal :=
  runWord (opLd r m) s

/-- LMB (40 R147). -/
def opLmb (r : Reg) (m : MemRef) (s : State) : Act State := loadMaskedOp r m s

/-- LMB as an instruction of the program. -/
def execLmb (r : Reg) (m : MemRef) (s : State) : Host.Outcome State Fault Refusal :=
  runWord (opLmb r m) s

/-- LMH (40 R148). -/
def opLmh (r : Reg) (m : MemRef) (s : State) : Act State := loadMaskedOp r m s

/-- LMH as an instruction of the program. -/
def execLmh (r : Reg) (m : MemRef) (s : State) : Host.Outcome State Fault Refusal :=
  runWord (opLmh r m) s

/-- LMW (40 R149). -/
def opLmw (r : Reg) (m : MemRef) (s : State) : Act State := loadMaskedOp r m s

/-- LMW as an instruction of the program. -/
def execLmw (r : Reg) (m : MemRef) (s : State) : Host.Outcome State Fault Refusal :=
  runWord (opLmw r m) s

/-- LMD (40 R150). -/
def opLmd (r : Reg) (m : MemRef) (s : State) : Act State := loadMaskedOp r m s

/-- LMD as an instruction of the program. -/
def execLmd (r : Reg) (m : MemRef) (s : State) : Host.Outcome State Fault Refusal :=
  runWord (opLmd r m) s

/-- LNB (40 R151). -/
def opLnb (r : Reg) (m : MemRef) (s : State) : Act State := loadNegativeOp r m s

/-- LNB as an instruction of the program. -/
def execLnb (r : Reg) (m : MemRef) (s : State) : Host.Outcome State Fault Refusal :=
  runWord (opLnb r m) s

/-- LNH (40 R152). -/
def opLnh (r : Reg) (m : MemRef) (s : State) : Act State := loadNegativeOp r m s

/-- LNH as an instruction of the program. -/
def execLnh (r : Reg) (m : MemRef) (s : State) : Host.Outcome State Fault Refusal :=
  runWord (opLnh r m) s

/-- LNW (40 R153). -/
def opLnw (r : Reg) (m : MemRef) (s : State) : Act State := loadNegativeOp r m s

/-- LNW as an instruction of the program. -/
def execLnw (r : Reg) (m : MemRef) (s : State) : Host.Outcome State Fault Refusal :=
  runWord (opLnw r m) s

/-- LND (40 R154). -/
def opLnd (r : Reg) (m : MemRef) (s : State) : Act State := loadNegativeOp r m s

/-- LND as an instruction of the program. -/
def execLnd (r : Reg) (m : MemRef) (s : State) : Host.Outcome State Fault Refusal :=
  runWord (opLnd r m) s

/-- LI (40 R155). -/
def opLi (r : Reg) (imm : BitVec 16) (s : State) : Act State := 
  .ok (s.deliver r false (.one (sextHalf imm)))

/-- LI as an instruction of the program. -/
def execLi (r : Reg) (imm : BitVec 16) (s : State) : Host.Outcome State Fault Refusal :=
  runWord (opLi r imm) s

/-- LEA: F, word address and C; bits 0 to 11 are a free value (40 R156). -/
def opLea (r : Reg) (m : MemRef) (s : State) : Act State := do
  let (e, s) ← effAddr s m
  return (s.setReg r (Config.leaHighBits s.draws ++ BitVec.ofBool e.f ++ e.op)).drawn

/-- LEA as an instruction of the program. -/
def execLea (r : Reg) (m : MemRef) (s : State) : Host.Outcome State Fault Refusal :=
  runWord (opLea r m) s

/-- LCS (40 R179). -/
def opLcs (r : Reg) (s : State) : Act State := 
  .ok (s.deliver r false (.one (s.controlSwitches ++ 0#19)))

/-- LCS as an instruction of the program. -/
def execLcs (r : Reg) (s : State) : Host.Outcome State Fault Refusal :=
  runHalf (opLcs r) s

/-- LF: the format code is ignored; all words lie in one module (40 R180; log 38). -/
def opLf (r : Reg) (m : MemRef) (s : State) : Act State := do
  let (e, s) ← effAddr s m
  checkPresent s e.word
  loadFile e.word r (fileRegs r) s

/-- LF as an instruction of the program. -/
def execLf (r : Reg) (m : MemRef) (s : State) : Host.Outcome State Fault Refusal :=
  runWord (opLf r m) s

end Sys2Proof.Machine
end

