-- ==== Sys2Proof/Machine/FixedPoint.lean ====
section
/-!
DEFINITION. The fixed-point arithmetic instructions (41_fixed_point.md).
-/

namespace Sys2Proof.Machine

/-- Add an operand to R[r] or to the pair (41 R192 to R195). -/
def State.addTo (s : State) (r : Reg) : Wide → State
  | .one m => s.deliver r (addOverflow (s.reg r) m) (.one (s.reg r + m))
  | .two m => s.deliver r (addOverflow (s.pair r) m) (.two (s.pair r + m))

/-- Subtract an operand from R[r] or from the pair (41 R203 to R206). -/
def State.subtractFrom (s : State) (r : Reg) : Wide → State
  | .one m => s.deliver r (subOverflow (s.reg r) m) (.one (s.reg r - m))
  | .two m => s.deliver r (subOverflow (s.pair r) m) (.two (s.pair r - m))

/-- ADMB to ADMD. -/
def addMemoryOp (r : Reg) (m : MemRef) (s : State) : Act State :=
  withOperand m (fun s d => .ok (s.addTo r d.extend)) s

/-- SUMB to SUMD. -/
def subtractMemoryOp (r : Reg) (m : MemRef) (s : State) : Act State :=
  withOperand m (fun s d => .ok (s.subtractFrom r d.extend)) s

/-- CC of ARMB and ARMH: CC1 to CC3 free, CC4 the zero test (41 R198, R199; log 9). -/
def armCC (draw : Nat) (zero : Bool) : CC :=
  let b := Config.armConditionBits draw
  { cc1 := b.getLsbD 2, cc2 := b.getLsbD 1, cc3 := b.getLsbD 0, cc4 := zero }

/-- Add the register to the operand in memory (41 R198 to R201). -/
def State.addToMemory (s : State) (r : Reg) (e : Ea) : Datum → State
  | .byte b =>
    let v := b + (s.reg r).extractLsb' 0 8
    ((s.write e (.byte v)).setCC (armCC s.draws (v == 0#8))).drawn
  | .half h =>
    let v := h + (s.reg r).extractLsb' 0 16
    ((s.write e (.half v)).setCC (armCC s.draws (v == 0#16))).drawn
  | .word w =>
    (s.write e (.word (s.reg r + w))).finishArithmetic (scc (addOverflow (s.reg r) w) (s.reg r + w))
  | .double d =>
    (s.write e (.double (s.pair r + d))).finishArithmetic (scc (addOverflow (s.pair r) d) (s.pair r + d))

/-- ARMB to ARMD. -/
def addRegisterToMemoryOp (r : Reg) (m : MemRef) (s : State) : Act State := do
  let (e, s) ← effAddr s m
  let (d, s) ← fetchForUpdate s e
  return s.addToMemory r e d

/-- An operand that must be one register wide; a doubleword code has no variant here (30 R105, 93 U6). -/
def withWordOperand (m : MemRef) (f : State → Word → State) (s : State) : Act State := do
  let (e, s) ← effAddr s m
  if e.format = .double then .error (.fault .noVariant)
  else
    let (d, s) ← fetch s e
    match d.extend with
    | .one w => .ok (f s w)
    | .two _ => .error (.fault .noVariant)

/-- Mul(e, m): the exact product of the odd register and the multiplier to the pair (41 R210). -/
def State.multiply (s : State) (r : Reg) (m : Word) : State :=
  s.deliver r false (.two (BitVec.ofInt 64 (m.toInt * (s.reg (pairOdd r)).toInt)))

/-- The quotient of a divide truncates toward zero and fits in 32 bits (41 R216). -/
def divideFits (n v : Int) : Bool := v != 0 && decide (-2 ^ 31 ≤ n.tdiv v) && decide (n.tdiv v ≤ 2 ^ 31 - 1)

/-- Div(e, v): quotient to the odd register, remainder to the even one; a zero divisor or a quotient too large sets
CC1, requests the exception and leaves the pair a free value (41 R216, 93 U3; log 10). -/
def State.divide (s : State) (r : Reg) (v : Word) : State :=
  let n := (s.pair r).toInt
  if divideFits n v.toInt then
    let q := BitVec.ofInt 32 (n.tdiv v.toInt)
    let rem := BitVec.ofInt 32 (n.tmod v.toInt)
    (s.setPair r (rem ++ q)).setCC (scc false q)
  else
    let p := Config.dividePair s.draws
    ((s.setPair r p).finishArithmetic (scc true (p.extractLsb' 0 32))).drawn

/-- MPMB to MPMW. -/
def multiplyMemoryOp (r : Reg) (m : MemRef) (s : State) : Act State := withWordOperand m (fun s w => s.multiply r w) s

/-- DVMB to DVMW. -/
def divideMemoryOp (r : Reg) (m : MemRef) (s : State) : Act State := withWordOperand m (fun s w => s.divide r w) s

/-- The sign of "R+1" that ES and RND read, and the state after reading it; for R = 7 it is a free value
(41 R222, R223, 93 U16; log 12).  R is not forced even, as R222 says and 70 R502 does not (DEDUCED, log 48). -/
def State.nextSign (s : State) (r : Reg) : Bool × State :=
  if r = 7#3 then (Config.signBeyondR7 s.draws, s.drawn) else ((s.reg (r + 1#3)).msb, s)

/-- ADMB (41 R192). -/
def opAdmb (r : Reg) (m : MemRef) (s : State) : Act State := addMemoryOp r m s

/-- ADMB as an instruction of the program. -/
def execAdmb (r : Reg) (m : MemRef) (s : State) : Host.Outcome State Fault Refusal :=
  runWord (opAdmb r m) s

/-- ADMH (41 R193). -/
def opAdmh (r : Reg) (m : MemRef) (s : State) : Act State := addMemoryOp r m s

/-- ADMH as an instruction of the program. -/
def execAdmh (r : Reg) (m : MemRef) (s : State) : Host.Outcome State Fault Refusal :=
  runWord (opAdmh r m) s

/-- ADMW (41 R194). -/
def opAdmw (r : Reg) (m : MemRef) (s : State) : Act State := addMemoryOp r m s

/-- ADMW as an instruction of the program. -/
def execAdmw (r : Reg) (m : MemRef) (s : State) : Host.Outcome State Fault Refusal :=
  runWord (opAdmw r m) s

/-- ADMD (41 R195). -/
def opAdmd (r : Reg) (m : MemRef) (s : State) : Act State := addMemoryOp r m s

/-- ADMD as an instruction of the program. -/
def execAdmd (r : Reg) (m : MemRef) (s : State) : Host.Outcome State Fault Refusal :=
  runWord (opAdmd r m) s

/-- ADR (41 R196). -/
def opAdr (d src : Reg) (s : State) : Act State := 
  .ok (s.addTo d (.one (s.reg src)))

/-- ADR as an instruction of the program. -/
def execAdr (d src : Reg) (s : State) : Host.Outcome State Fault Refusal :=
  runHalf (opAdr d src) s

/-- ADRM: CC1 reports the addition before masking (41 R197). -/
def opAdrm (d src : Reg) (s : State) : Act State := 
  let x := s.reg d
  let y := s.reg src
  .ok (s.deliver d (addOverflow x y) (.one ((x + y) &&& s.mask)))

/-- ADRM as an instruction of the program. -/
def execAdrm (d src : Reg) (s : State) : Host.Outcome State Fault Refusal :=
  runHalf (opAdrm d src) s

/-- ARMB (41 R198). -/
def opArmb (r : Reg) (m : MemRef) (s : State) : Act State := addRegisterToMemoryOp r m s

/-- ARMB as an instruction of the program. -/
def execArmb (r : Reg) (m : MemRef) (s : State) : Host.Outcome State Fault Refusal :=
  runWord (opArmb r m) s

/-- ARMH (41 R199). -/
def opArmh (r : Reg) (m : MemRef) (s : State) : Act State := addRegisterToMemoryOp r m s

/-- ARMH as an instruction of the program. -/
def execArmh (r : Reg) (m : MemRef) (s : State) : Host.Outcome State Fault Refusal :=
  runWord (opArmh r m) s

/-- ARMW (41 R200). -/
def opArmw (r : Reg) (m : MemRef) (s : State) : Act State := addRegisterToMemoryOp r m s

/-- ARMW as an instruction of the program. -/
def execArmw (r : Reg) (m : MemRef) (s : State) : Host.Outcome State Fault Refusal :=
  runWord (opArmw r m) s

/-- ARMD (41 R201). -/
def opArmd (r : Reg) (m : MemRef) (s : State) : Act State := addRegisterToMemoryOp r m s

/-- ARMD as an instruction of the program. -/
def execArmd (r : Reg) (m : MemRef) (s : State) : Host.Outcome State Fault Refusal :=
  runWord (opArmd r m) s

/-- ADI (41 R202). -/
def opAdi (r : Reg) (imm : BitVec 16) (s : State) : Act State := 
  .ok (s.addTo r (.one (sextHalf imm)))

/-- ADI as an instruction of the program. -/
def execAdi (r : Reg) (imm : BitVec 16) (s : State) : Host.Outcome State Fault Refusal :=
  runWord (opAdi r imm) s

/-- SUMB (41 R203). -/
def opSumb (r : Reg) (m : MemRef) (s : State) : Act State := subtractMemoryOp r m s

/-- SUMB as an instruction of the program. -/
def execSumb (r : Reg) (m : MemRef) (s : State) : Host.Outcome State Fault Refusal :=
  runWord (opSumb r m) s

/-- SUMH (41 R204). -/
def opSumh (r : Reg) (m : MemRef) (s : State) : Act State := subtractMemoryOp r m s

/-- SUMH as an instruction of the program. -/
def execSumh (r : Reg) (m : MemRef) (s : State) : Host.Outcome State Fault Refusal :=
  runWord (opSumh r m) s

/-- SUMW (41 R205). -/
def opSumw (r : Reg) (m : MemRef) (s : State) : Act State := subtractMemoryOp r m s

/-- SUMW as an instruction of the program. -/
def execSumw (r : Reg) (m : MemRef) (s : State) : Host.Outcome State Fault Refusal :=
  runWord (opSumw r m) s

/-- SUMD (41 R206). -/
def opSumd (r : Reg) (m : MemRef) (s : State) : Act State := subtractMemoryOp r m s

/-- SUMD as an instruction of the program. -/
def execSumd (r : Reg) (m : MemRef) (s : State) : Host.Outcome State Fault Refusal :=
  runWord (opSumd r m) s

/-- SUR (41 R207). -/
def opSur (d src : Reg) (s : State) : Act State := 
  .ok (s.subtractFrom d (.one (s.reg src)))

/-- SUR as an instruction of the program. -/
def execSur (d src : Reg) (s : State) : Host.Outcome State Fault Refusal :=
  runHalf (opSur d src) s

/-- SURM: CC1 reports the subtraction before masking (41 R208). -/
def opSurm (d src : Reg) (s : State) : Act State := 
  let x := s.reg d
  let y := s.reg src
  .ok (s.deliver d (subOverflow x y) (.one ((x - y) &&& s.mask)))

/-- SURM as an instruction of the program. -/
def execSurm (d src : Reg) (s : State) : Host.Outcome State Fault Refusal :=
  runHalf (opSurm d src) s

/-- SUI (41 R209). -/
def opSui (r : Reg) (imm : BitVec 16) (s : State) : Act State := 
  .ok (s.subtractFrom r (.one (sextHalf imm)))

/-- SUI as an instruction of the program. -/
def execSui (r : Reg) (imm : BitVec 16) (s : State) : Host.Outcome State Fault Refusal :=
  runWord (opSui r imm) s

/-- MPMB (41 R211). -/
def opMpmb (r : Reg) (m : MemRef) (s : State) : Act State := multiplyMemoryOp r m s

/-- MPMB as an instruction of the program. -/
def execMpmb (r : Reg) (m : MemRef) (s : State) : Host.Outcome State Fault Refusal :=
  runWord (opMpmb r m) s

/-- MPMH (41 R212). -/
def opMpmh (r : Reg) (m : MemRef) (s : State) : Act State := multiplyMemoryOp r m s

/-- MPMH as an instruction of the program. -/
def execMpmh (r : Reg) (m : MemRef) (s : State) : Host.Outcome State Fault Refusal :=
  runWord (opMpmh r m) s

/-- MPMW (41 R213). -/
def opMpmw (r : Reg) (m : MemRef) (s : State) : Act State := multiplyMemoryOp r m s

/-- MPMW as an instruction of the program. -/
def execMpmw (r : Reg) (m : MemRef) (s : State) : Host.Outcome State Fault Refusal :=
  runWord (opMpmw r m) s

/-- MPR (41 R214). -/
def opMpr (d src : Reg) (s : State) : Act State := 
  .ok (s.multiply d (s.reg src))

/-- MPR as an instruction of the program. -/
def execMpr (d src : Reg) (s : State) : Host.Outcome State Fault Refusal :=
  runHalf (opMpr d src) s

/-- MPI (41 R215). -/
def opMpi (r : Reg) (imm : BitVec 16) (s : State) : Act State := 
  .ok (s.multiply r (sextHalf imm))

/-- MPI as an instruction of the program. -/
def execMpi (r : Reg) (imm : BitVec 16) (s : State) : Host.Outcome State Fault Refusal :=
  runWord (opMpi r imm) s

/-- DVMB (41 R217). -/
def opDvmb (r : Reg) (m : MemRef) (s : State) : Act State := divideMemoryOp r m s

/-- DVMB as an instruction of the program. -/
def execDvmb (r : Reg) (m : MemRef) (s : State) : Host.Outcome State Fault Refusal :=
  runWord (opDvmb r m) s

/-- DVMH (41 R218). -/
def opDvmh (r : Reg) (m : MemRef) (s : State) : Act State := divideMemoryOp r m s

/-- DVMH as an instruction of the program. -/
def execDvmh (r : Reg) (m : MemRef) (s : State) : Host.Outcome State Fault Refusal :=
  runWord (opDvmh r m) s

/-- DVMW (41 R219). -/
def opDvmw (r : Reg) (m : MemRef) (s : State) : Act State := divideMemoryOp r m s

/-- DVMW as an instruction of the program. -/
def execDvmw (r : Reg) (m : MemRef) (s : State) : Host.Outcome State Fault Refusal :=
  runWord (opDvmw r m) s

/-- DVR (41 R220). -/
def opDvr (d src : Reg) (s : State) : Act State := 
  .ok (s.divide d (s.reg src))

/-- DVR as an instruction of the program. -/
def execDvr (d src : Reg) (s : State) : Host.Outcome State Fault Refusal :=
  runHalf (opDvr d src) s

/-- DVI (41 R221). -/
def opDvi (r : Reg) (imm : BitVec 16) (s : State) : Act State := 
  .ok (s.divide r (sextHalf imm))

/-- DVI as an instruction of the program. -/
def execDvi (r : Reg) (imm : BitVec 16) (s : State) : Host.Outcome State Fault Refusal :=
  runWord (opDvi r imm) s

/-- ES (41 R222). -/
def opEs (r : Reg) (s : State) : Act State := 
  let (sign, t) := s.nextSign r
  .ok (t.deliver r false (.one (if sign then 0xFFFFFFFF#32 else 0#32)))

/-- ES as an instruction of the program. -/
def execEs (r : Reg) (s : State) : Host.Outcome State Fault Refusal :=
  runHalf (opEs r) s

/-- RND (41 R223). -/
def opRnd (r : Reg) (s : State) : Act State := 
  let (sign, t) := s.nextSign r
  let x := s.reg r
  .ok (if sign then t.deliver r (x == 0x7FFFFFFF#32) (.one (x + 1#32)) else t.deliver r false (.one x))

/-- RND as an instruction of the program. -/
def execRnd (r : Reg) (s : State) : Host.Outcome State Fault Refusal :=
  runHalf (opRnd r) s

end Sys2Proof.Machine
end

