-- ==== Sys2Proof/Machine/Bit.lean ====
section
/-!
DEFINITION. The bit manipulation instructions (44_bit_manipulation.md).
-/

namespace Sys2Proof.Machine

/-- Read the addressed byte of a bit instruction after the write check, go on with it (44 R282, R284). -/
def changeBit (m : MemRef) (n : BitVec 3) (f : Byte → Byte) (s : State) : Act State := do
  let (e, s) ← effAddr s m
  checkWrite s e.word
  let (b, s) ← readByte s (bitByte e)
  return (s.writeByte (bitByte e) (f b)).setCC (shiftInto s.psw.cc (bitAt b n.toNat))

/-- A register bit instruction: the new register value, and the old bit to CC1 (44 R283, R285). -/
def State.changeRegBit (s : State) (r : Reg) (n : BitVec 3) (y : BitVec 2) (f : Word → Word) : State :=
  (s.setReg r (f (s.reg r))).setCC (shiftInto s.psw.cc (bitAt (s.reg r) (bitPosition n y)))

/-- SBM (44 R282). -/
def opSbm (n : BitVec 3) (m : MemRef) (s : State) : Act State := 
  changeBit m n (fun b => b ||| bitOfByte n) s

/-- SBM as an instruction of the program. -/
def execSbm (n : BitVec 3) (m : MemRef) (s : State) : Host.Outcome State Fault Refusal :=
  runWord (opSbm n m) s

/-- SBR (44 R283). -/
def opSbr (n : BitVec 3) (r : Reg) (y : BitVec 2) (s : State) : Act State := 
  .ok (s.changeRegBit r n y (fun x => x ||| bitWord (bitPosition n y)))

/-- SBR as an instruction of the program. -/
def execSbr (n : BitVec 3) (r : Reg) (y : BitVec 2) (s : State) : Host.Outcome State Fault Refusal :=
  runHalf (opSbr n r y) s

/-- ZBM (44 R284). -/
def opZbm (n : BitVec 3) (m : MemRef) (s : State) : Act State := 
  changeBit m n (fun b => b &&& ~~~(bitOfByte n)) s

/-- ZBM as an instruction of the program. -/
def execZbm (n : BitVec 3) (m : MemRef) (s : State) : Host.Outcome State Fault Refusal :=
  runWord (opZbm n m) s

/-- ZBR (44 R285). -/
def opZbr (n : BitVec 3) (r : Reg) (y : BitVec 2) (s : State) : Act State := 
  .ok (s.changeRegBit r n y (fun x => x &&& ~~~(bitWord (bitPosition n y))))

/-- ZBR as an instruction of the program. -/
def execZbr (n : BitVec 3) (r : Reg) (y : BitVec 2) (s : State) : Host.Outcome State Fault Refusal :=
  runHalf (opZbr n r y) s

/-- ABM: the addition is over the whole word (44 R286). -/
def opAbm (n : BitVec 3) (m : MemRef) (s : State) : Act State := do
  let (e, s) ← effAddr s m
  checkWrite s e.word
  let (w, s) ← readWord s e.word
  let inc := bitWord (bitPosition n (bitByte e).c)
  return (s.writeWord e.word (w + inc)).finishArithmetic (scc (addOverflow w inc) (w + inc))

/-- ABM as an instruction of the program. -/
def execAbm (n : BitVec 3) (m : MemRef) (s : State) : Host.Outcome State Fault Refusal :=
  runWord (opAbm n m) s

/-- ABR (44 R287). -/
def opAbr (n : BitVec 3) (r : Reg) (y : BitVec 2) (s : State) : Act State := 
  .ok (s.addTo r (.one (bitWord (bitPosition n y))))

/-- ABR as an instruction of the program. -/
def execAbr (n : BitVec 3) (r : Reg) (y : BitVec 2) (s : State) : Host.Outcome State Fault Refusal :=
  runHalf (opAbr n r y) s

/-- TBM (44 R288). -/
def opTbm (n : BitVec 3) (m : MemRef) (s : State) : Act State := do
  let (e, s) ← effAddr s m
  let (b, s) ← readByte s (bitByte e)
  return s.setCC (shiftInto s.psw.cc (bitAt b n.toNat))

/-- TBM as an instruction of the program. -/
def execTbm (n : BitVec 3) (m : MemRef) (s : State) : Host.Outcome State Fault Refusal :=
  runWord (opTbm n m) s

/-- TBR (44 R289). -/
def opTbr (n : BitVec 3) (r : Reg) (y : BitVec 2) (s : State) : Act State := 
  .ok (s.setCC (shiftInto s.psw.cc (bitAt (s.reg r) (bitPosition n y))))

/-- TBR as an instruction of the program. -/
def execTbr (n : BitVec 3) (r : Reg) (y : BitVec 2) (s : State) : Host.Outcome State Fault Refusal :=
  runHalf (opTbr n r y) s

end Sys2Proof.Machine
end

