-- ==== Sys2Proof/Machine/Branch.lean ====
section
/-!
DEFINITION. The branch instructions (45_compare_branch.md R314 to R324).
-/

namespace Sys2Proof.Machine

/-- The transfer of BranchTo: with an indirect word PSWR bits 1 to 12 are replaced; the program count becomes bits 13 to
30 of the raw address (45 R314). -/
def State.jump (s : State) (e : Ea) : State :=
  let psw := match e.last with
    | some w => s.psw.loadStatus w
    | none => s.psw
  { s with psw := { psw with pc := e.raw.extractLsb' 1 18 } }

/-- A branch taken under a condition; of one not taken the address is not formed (45 R314 (g)). -/
def branchIf (c : Bool) (m : MemRef) (s : State) : Act State :=
  if c then do
    let (e, s) ← effAddr s m
    return s.jump e
  else .ok s

/-- BranchInc(k): the address is formed with the old register and without an index at the first level; nothing is
written on a trap (45 R320; log 19).  PSWR bits 1 to 12 stay with an indirect word too, as R320, R314, 10 R35 (c) and V131
say and a sentence of 60 R463 does not (DEDUCED, log 49). -/
def branchIncrement (k : Word) (r : Reg) (m : MemRef) (s : State) : Act State :=
  let v := s.reg r + k
  if v = 0#32 then .ok (s.setReg r v)
  else do
    let (e, s) ← effAddr s { m with x := 0#2 }
    return (s.setReg r v).setPc (e.raw.extractLsb' 1 18)

/-- BU (45 R315). -/
def opBu (m : MemRef) (s : State) : Act State := branchIf true m s

/-- BU as an instruction of the program. -/
def execBu (m : MemRef) (s : State) : Host.Outcome State Fault Refusal :=
  runWord (opBu m) s

/-- BCT (45 R316). -/
def opBct (d : BitVec 3) (m : MemRef) (s : State) : Act State := 
  branchIf (conditionTrue s.psw.cc d) m s

/-- BCT as an instruction of the program. -/
def execBct (d : BitVec 3) (m : MemRef) (s : State) : Host.Outcome State Fault Refusal :=
  runWord (opBct d m) s

/-- BCF: each condition is the complement of the BCT one (45 R317). -/
def opBcf (d : BitVec 3) (m : MemRef) (s : State) : Act State := 
  branchIf (!conditionTrue s.psw.cc d) m s

/-- BCF as an instruction of the program. -/
def execBcf (d : BitVec 3) (m : MemRef) (s : State) : Host.Outcome State Fault Refusal :=
  runWord (opBcf d m) s

/-- BFT (45 R318). -/
def opBft (m : MemRef) (s : State) : Act State := 
  branchIf (functionTrue s.mask s.psw.cc) m s

/-- BFT as an instruction of the program. -/
def execBft (m : MemRef) (s : State) : Host.Outcome State Fault Refusal :=
  runWord (opBft m) s

/-- BL: R0 receives the PSWR with the advanced program count (45 R319). -/
def opBl (m : MemRef) (s : State) : Act State := do
  let (e, s) ← effAddr s m
  return (s.setReg 0#3 s.psw.word).jump e

/-- BL as an instruction of the program. -/
def execBl (m : MemRef) (s : State) : Host.Outcome State Fault Refusal :=
  runWord (opBl m) s

/-- BIB (45 R320). -/
def opBib (r : Reg) (m : MemRef) (s : State) : Act State := branchIncrement 1#32 r m s

/-- BIB as an instruction of the program. -/
def execBib (r : Reg) (m : MemRef) (s : State) : Host.Outcome State Fault Refusal :=
  runWord (opBib r m) s

/-- BIH (45 R321). -/
def opBih (r : Reg) (m : MemRef) (s : State) : Act State := branchIncrement 2#32 r m s

/-- BIH as an instruction of the program. -/
def execBih (r : Reg) (m : MemRef) (s : State) : Host.Outcome State Fault Refusal :=
  runWord (opBih r m) s

/-- BIW (45 R322). -/
def opBiw (r : Reg) (m : MemRef) (s : State) : Act State := branchIncrement 4#32 r m s

/-- BIW as an instruction of the program. -/
def execBiw (r : Reg) (m : MemRef) (s : State) : Host.Outcome State Fault Refusal :=
  runWord (opBiw r m) s

/-- BID (45 R323). -/
def opBid (r : Reg) (m : MemRef) (s : State) : Act State := branchIncrement 8#32 r m s

/-- BID as an instruction of the program. -/
def execBid (r : Reg) (m : MemRef) (s : State) : Host.Outcome State Fault Refusal :=
  runWord (opBid r m) s

/-- BRI (45 R324). -/
def opBri (m : MemRef) (s : State) : Act State := do
  privilegedOnly s
  let (e, s) ← effAddr s m
  return returnFromInterrupt s e

/-- BRI as an instruction of the program. -/
def execBri (m : MemRef) (s : State) : Host.Outcome State Fault Refusal :=
  runWord (opBri m) s

end Sys2Proof.Machine
end

