-- ==== Sys2Proof/Machine/Compare.lean ====
section
/-!
DEFINITION. The compare instructions (45_compare_branch.md R300 to R311).
-/

namespace Sys2Proof.Machine

/-- Compare R[r] or the pair with an operand as signed numbers (45 R300 (a)). -/
def State.compareWith (s : State) (r : Reg) : Wide → State
  | .one w => s.setCC (arithmeticCompare (s.reg r) w)
  | .two d => s.setCC (arithmeticCompare (s.pair r) d)

/-- Compare under the mask R4, which masks both words of a doubleword (45 R300 (b), R310). -/
def State.compareMasked (s : State) (r : Reg) : Wide → State
  | .one w => s.setCC (maskedCompare ((s.reg r ^^^ w) &&& s.mask))
  | .two d => s.setCC (maskedCompare ((s.pair r ^^^ d) &&& (s.mask ++ s.mask)))

/-- CAMB to CAMD. -/
def compareMemoryOp (r : Reg) (m : MemRef) (s : State) : Act State :=
  withOperand m (fun s d => .ok (s.compareWith r d.extend)) s

/-- CMMB to CMMD. -/
def compareMaskedMemoryOp (r : Reg) (m : MemRef) (s : State) : Act State :=
  withOperand m (fun s d => .ok (s.compareMasked r d.extend)) s

/-- CAMB (45 R301). -/
def opCamb (r : Reg) (m : MemRef) (s : State) : Act State := compareMemoryOp r m s

/-- CAMB as an instruction of the program. -/
def execCamb (r : Reg) (m : MemRef) (s : State) : Host.Outcome State Fault Refusal :=
  runWord (opCamb r m) s

/-- CAMH (45 R302). -/
def opCamh (r : Reg) (m : MemRef) (s : State) : Act State := compareMemoryOp r m s

/-- CAMH as an instruction of the program. -/
def execCamh (r : Reg) (m : MemRef) (s : State) : Host.Outcome State Fault Refusal :=
  runWord (opCamh r m) s

/-- CAMW (45 R303). -/
def opCamw (r : Reg) (m : MemRef) (s : State) : Act State := compareMemoryOp r m s

/-- CAMW as an instruction of the program. -/
def execCamw (r : Reg) (m : MemRef) (s : State) : Host.Outcome State Fault Refusal :=
  runWord (opCamw r m) s

/-- CAMD (45 R304). -/
def opCamd (r : Reg) (m : MemRef) (s : State) : Act State := compareMemoryOp r m s

/-- CAMD as an instruction of the program. -/
def execCamd (r : Reg) (m : MemRef) (s : State) : Host.Outcome State Fault Refusal :=
  runWord (opCamd r m) s

/-- CAR (45 R305). -/
def opCar (d src : Reg) (s : State) : Act State := 
  .ok (s.compareWith d (.one (s.reg src)))

/-- CAR as an instruction of the program. -/
def execCar (d src : Reg) (s : State) : Host.Outcome State Fault Refusal :=
  runHalf (opCar d src) s

/-- CI (45 R306). -/
def opCi (r : Reg) (imm : BitVec 16) (s : State) : Act State := 
  .ok (s.compareWith r (.one (sextHalf imm)))

/-- CI as an instruction of the program. -/
def execCi (r : Reg) (imm : BitVec 16) (s : State) : Host.Outcome State Fault Refusal :=
  runWord (opCi r imm) s

/-- CMMB (45 R307). -/
def opCmmb (r : Reg) (m : MemRef) (s : State) : Act State := compareMaskedMemoryOp r m s

/-- CMMB as an instruction of the program. -/
def execCmmb (r : Reg) (m : MemRef) (s : State) : Host.Outcome State Fault Refusal :=
  runWord (opCmmb r m) s

/-- CMMH (45 R308). -/
def opCmmh (r : Reg) (m : MemRef) (s : State) : Act State := compareMaskedMemoryOp r m s

/-- CMMH as an instruction of the program. -/
def execCmmh (r : Reg) (m : MemRef) (s : State) : Host.Outcome State Fault Refusal :=
  runWord (opCmmh r m) s

/-- CMMW (45 R309). -/
def opCmmw (r : Reg) (m : MemRef) (s : State) : Act State := compareMaskedMemoryOp r m s

/-- CMMW as an instruction of the program. -/
def execCmmw (r : Reg) (m : MemRef) (s : State) : Host.Outcome State Fault Refusal :=
  runWord (opCmmw r m) s

/-- CMMD (45 R310). -/
def opCmmd (r : Reg) (m : MemRef) (s : State) : Act State := compareMaskedMemoryOp r m s

/-- CMMD as an instruction of the program. -/
def execCmmd (r : Reg) (m : MemRef) (s : State) : Host.Outcome State Fault Refusal :=
  runWord (opCmmd r m) s

/-- CMR (45 R311). -/
def opCmr (d src : Reg) (s : State) : Act State := 
  .ok (s.compareMasked d (.one (s.reg src)))

/-- CMR as an instruction of the program. -/
def execCmr (d src : Reg) (s : State) : Host.Outcome State Fault Refusal :=
  runHalf (opCmr d src) s

end Sys2Proof.Machine
end

