-- ==== Sys2Proof/Machine/Control.lean ====
section
/-!
DEFINITION. HALT, WAIT, NOP and CALM (48_control.md); the execute instructions are in Execute.lean.
-/

namespace Sys2Proof.Machine

/-- HALT (48 R393). -/
def opHalt (s : State) : Act State := do
  privilegedOnly s
  return { s with run := .halt }

/-- HALT as an instruction of the program. -/
def execHalt (s : State) : Host.Outcome State Fault Refusal :=
  runHalf opHalt s

/-- WAIT (48 R394). -/
def opWait (s : State) : Act State := 
  .ok { s with run := .wait }

/-- WAIT as an instruction of the program. -/
def execWait (s : State) : Host.Outcome State Fault Refusal :=
  runHalf opWait s

/-- NOP (48 R395). -/
def opNop (s : State) : Act State := .ok s

/-- NOP as an instruction of the program. -/
def execNop (s : State) : Host.Outcome State Fault Refusal :=
  runHalf opNop s

/-- CALM: the flag bits have no hardware meaning (48 R396). -/
def opCalm (flags : BitVec 10) (s : State) : Act State := 
  let _ := flags
  .ok (s.requestLevel 0x27#7)

/-- CALM as an instruction of the program. -/
def execCalm (flags : BitVec 10) (s : State) : Host.Outcome State Fault Refusal :=
  runHalf (opCalm flags) s

end Sys2Proof.Machine
end

