-- ==== Sys2Proof/Machine/FloatingPoint.lean ====
section
/-!
DEFINITION. The floating-point instructions, option 8620 (42_floating_point.md).
-/

namespace Sys2Proof.Machine

/-- A floating-point result. -/
inductive FloatResult (n : Nat) where
  /-- The rules fix the pattern, and there is no exception. -/
  | exact (v : BitVec n)
  /-- The arithmetic exception is certain; what the register holds is open (42 R232, 92 D26; log 11). -/
  | exception
  /-- The operands are ones for which the manual promises nothing (93 U10; log 11). -/
  | anyValue
deriving DecidableEq, Repr

/-- The number of fraction bits of an n-bit pattern (42 R231). -/
def fractionBits (n : Nat) : Nat := n - 8

/-- The magnitude pattern: the whole pattern complemented for a negative number (42 R230). -/
def magnitude {n : Nat} (v : BitVec n) : BitVec n := if v.msb then -v else v

/-- The exponent field of the magnitude (42 R231). -/
def exponentOf {n : Nat} (v : BitVec n) : Nat := (magnitude v).toNat / 2 ^ fractionBits n % 128

/-- The fraction field of the magnitude as an integer (42 R231). -/
def fractionOf {n : Nat} (v : BitVec n) : Nat := (magnitude v).toNat % 2 ^ fractionBits n

/-- FEncode (42 R231). -/
def floatEncode (n : Nat) (negative : Bool) (e f : Nat) : BitVec n :=
  let m := BitVec.ofNat n (e * 2 ^ fractionBits n + f)
  if negative then -m else m

/-- An operand that is computed with: not 80...0, and normalized or of zero fraction (42 R231, R234).  A zero fraction
with a nonzero exponent (41000000) is not normalized by R231, and 93 U10 leaves its result open for proofs; that the
model takes it as zero, at face value, is its own choice (DESIGN CHOICE, unsafe, log 11). -/
def regular {n : Nat} (v : BitVec n) : Bool :=
  v != minusFullScale n && (fractionOf v == 0 || decide (2 ^ (fractionBits n - 4) ≤ fractionOf v))

/-- The number of hexadecimal digits of a positive integer. -/
def hexDigits (n : Nat) : Nat := Nat.log2 n / 4 + 1

/-- FResult of (num / den) * 16^(base - 64), num and den positive: normalize, round half up or truncate the magnitude,
and look whether the exponent field can hold the exponent (42 R232). -/
def floatRound (n : Nat) (round negative : Bool) (num den : Nat) (base : Int) : FloatResult n :=
  let k := fractionBits n
  let a := num * 16 ^ hexDigits den
  let b := den * 16 ^ hexDigits num
  let up := decide (b ≤ a)
  let b' := if up then b * 16 else b
  let h : Int := (hexDigits num : Int) - hexDigits den + (if up then 1 else 0)
  let f := if round then (2 * a * 2 ^ k + b') / (2 * b') else a * 2 ^ k / b'
  let e := if f = 2 ^ k then base + h + 1 else base + h
  let f' := if f = 2 ^ k then 2 ^ (k - 4) else f
  if e < 0 ∨ 127 < e then .exception else .exact (floatEncode n negative e.toNat f')

/-- FResult of a signed value num / den * 16^(base - 64) (42 R232). -/
def floatResult (n : Nat) (round : Bool) (num : Int) (den : Nat) (base : Int) : FloatResult n :=
  if num = 0 then .exact 0#n else floatRound n round (decide (num < 0)) num.natAbs den base

/-- The fraction with the number's sign. -/
def signedFraction {n : Nat} (v : BitVec n) : Int := if v.msb then -(fractionOf v : Int) else fractionOf v

/-- A result of zero fraction is zero (42 R234). -/
def cleanZero {n : Nat} (v : BitVec n) : BitVec n := if fractionOf v = 0 then 0#n else v

/-- The largest difference of exponents that still adds: 5 for words, 13 for doublewords (42 R234). -/
def alignLimit (n : Nat) : Nat := if n = 32 then 5 else 13

/-- Words round, doublewords truncate (42 R232). -/
def rounds (n : Nat) : Bool := n == 32

/-- FAddSub with the sign of the subtrahend already changed (42 R234). -/
def floatAdd {n : Nat} (x m : BitVec n) : FloatResult n :=
  let ex := exponentOf x
  let em := exponentOf m
  if !regular x || !regular m then .anyValue
  else if fractionOf x = 0 then .exact (cleanZero m)
  else if fractionOf m = 0 then .exact (cleanZero x)
  else if em + alignLimit n < ex then .exact x
  else if ex + alignLimit n < em then .exact m
  else
    let low := min ex em
    let sum := signedFraction x * 16 ^ (ex - low) + signedFraction m * 16 ^ (em - low)
    floatResult n (rounds n) sum (2 ^ fractionBits n) low

/-- FAddSub with subtract = true: the subtrahend is complemented first (42 R234). -/
def floatSubtract {n : Nat} (x m : BitVec n) : FloatResult n :=
  floatAdd x (-m)

/-- The product: the true powers add (42 R239); zero when a fraction is zero, whatever its exponent (log 11). -/
def floatMultiply {n : Nat} (x m : BitVec n) : FloatResult n :=
  if !regular x || !regular m then .anyValue
  else floatResult n (rounds n) (signedFraction x * signedFraction m) (2 ^ (2 * fractionBits n))
    ((exponentOf x : Int) + exponentOf m - 64)

/-- The quotient; a divisor of zero fraction is the arithmetic exception (42 R241), a dividend of zero fraction gives
zero, whatever their exponents (log 11). -/
def floatDivide {n : Nat} (x m : BitVec n) : FloatResult n :=
  if m == minusFullScale n then .anyValue
  else if fractionOf m = 0 then .exception
  else if !regular x || !regular m then .anyValue
  else
    let sign : Int := if m.msb then -1 else 1
    floatResult n (rounds n) (sign * signedFraction x) (fractionOf m) ((exponentOf x : Int) - exponentOf m + 64)

/-- A word result to R[r] (42 R235). -/
def State.deliverFloatWord (s : State) (r : Reg) : FloatResult 32 → State
  | .exact v => s.deliver r false (.one v)
  | .exception => (s.deliver r true (.one (Config.floatWord s.draws))).drawn
  | .anyValue => (s.deliver r (Config.floatException s.draws) (.one (Config.floatWord s.draws))).drawn

/-- A doubleword result to the pair (42 R236). -/
def State.deliverFloatDouble (s : State) (r : Reg) : FloatResult 64 → State
  | .exact v => s.deliver r false (.two v)
  | .exception => (s.deliver r true (.two (Config.floatDouble s.draws))).drawn
  | .anyValue => (s.deliver r (Config.floatException s.draws) (.two (Config.floatDouble s.draws))).drawn

/-- A floating-point instruction: the effective C selects word or doubleword; without OPT_FP the code is undefined
(42 R233, 30 R115). -/
def floatOp (f : {n : Nat} → BitVec n → BitVec n → FloatResult n) (r : Reg) (m : MemRef) (s : State) : Act State :=
  if !s.cfg.optFp then .error (.trap .undefinedInstruction s)
  else do
    let (e, s) ← effAddr s m
    if e.c = 0#2 then
      let (w, s) ← readWord s e.word
      .ok (s.deliverFloatWord r (f (s.reg r) w))
    else if e.c = 2#2 then
      let (lo, s) ← readWord s (oddWord e.word)
      let (hi, s) ← readWord s (evenWord e.word)
      .ok (s.deliverFloatDouble r (f (s.pair r) (hi ++ lo)))
    else .error (.fault .noVariant)

/-- ADFW (42 R235). -/
def opAdfw (r : Reg) (m : MemRef) (s : State) : Act State := floatOp floatAdd r m s

/-- ADFW as an instruction of the program. -/
def execAdfw (r : Reg) (m : MemRef) (s : State) : Host.Outcome State Fault Refusal :=
  runWord (opAdfw r m) s

/-- ADFD (42 R236). -/
def opAdfd (r : Reg) (m : MemRef) (s : State) : Act State := floatOp floatAdd r m s

/-- ADFD as an instruction of the program. -/
def execAdfd (r : Reg) (m : MemRef) (s : State) : Host.Outcome State Fault Refusal :=
  runWord (opAdfd r m) s

/-- SUFW (42 R237). -/
def opSufw (r : Reg) (m : MemRef) (s : State) : Act State := floatOp floatSubtract r m s

/-- SUFW as an instruction of the program. -/
def execSufw (r : Reg) (m : MemRef) (s : State) : Host.Outcome State Fault Refusal :=
  runWord (opSufw r m) s

/-- SUFD (42 R238). -/
def opSufd (r : Reg) (m : MemRef) (s : State) : Act State := floatOp floatSubtract r m s

/-- SUFD as an instruction of the program. -/
def execSufd (r : Reg) (m : MemRef) (s : State) : Host.Outcome State Fault Refusal :=
  runWord (opSufd r m) s

/-- MPFW (42 R239). -/
def opMpfw (r : Reg) (m : MemRef) (s : State) : Act State := floatOp floatMultiply r m s

/-- MPFW as an instruction of the program. -/
def execMpfw (r : Reg) (m : MemRef) (s : State) : Host.Outcome State Fault Refusal :=
  runWord (opMpfw r m) s

/-- MPFD (42 R240). -/
def opMpfd (r : Reg) (m : MemRef) (s : State) : Act State := floatOp floatMultiply r m s

/-- MPFD as an instruction of the program. -/
def execMpfd (r : Reg) (m : MemRef) (s : State) : Host.Outcome State Fault Refusal :=
  runWord (opMpfd r m) s

/-- DVFW (42 R241). -/
def opDvfw (r : Reg) (m : MemRef) (s : State) : Act State := floatOp floatDivide r m s

/-- DVFW as an instruction of the program. -/
def execDvfw (r : Reg) (m : MemRef) (s : State) : Host.Outcome State Fault Refusal :=
  runWord (opDvfw r m) s

/-- DVFD (42 R242). -/
def opDvfd (r : Reg) (m : MemRef) (s : State) : Act State := floatOp floatDivide r m s

/-- DVFD as an instruction of the program. -/
def execDvfd (r : Reg) (m : MemRef) (s : State) : Host.Outcome State Fault Refusal :=
  runWord (opDvfd r m) s

end Sys2Proof.Machine
end

