-- ==== Sys2Proof/Machine/Logical.lean ====
section
/-!
DEFINITION. The logical instructions (43_logical.md).
-/

namespace Sys2Proof.Machine

/-- A memory operand with zeros to its left: halfwords are not sign-extended here (43 R251). -/
def Datum.zeroExtend : Datum → Wide
  | .byte b => .one (b.setWidth 32)
  | .half h => .one (h.setWidth 32)
  | .word w => .one w
  | .double d => .two d

/-- ANMB to ANMD: the byte and halfword forms keep the bits to the left and test the field alone
(43 R252 to R255). -/
def State.andInto (s : State) (r : Reg) : Datum → State
  | .byte b =>
    let v := b &&& (s.reg r).extractLsb' 0 8
    (s.setReg r ((s.reg r).extractLsb' 8 24 ++ v)).setCC (fieldCC v)
  | .half h =>
    let v := h &&& (s.reg r).extractLsb' 0 16
    (s.setReg r ((s.reg r).extractLsb' 16 16 ++ v)).setCC (fieldCC v)
  | .word w => s.deliver r false (.one (w &&& s.reg r))
  | .double d => s.deliver r false (.two (d &&& s.pair r))

/-- ORMB to ORMD: the condition code is that of the whole register (43 R251, R257 to R260). -/
def State.orInto (s : State) (r : Reg) : Wide → State
  | .one w => s.deliver r false (.one (w ||| s.reg r))
  | .two d => s.deliver r false (.two (d ||| s.pair r))

/-- EOMB to EOMD: the condition code is that of the whole register (43 R251, R263 to R266). -/
def State.xorInto (s : State) (r : Reg) : Wide → State
  | .one w => s.deliver r false (.one (w ^^^ s.reg r))
  | .two d => s.deliver r false (.two (d ^^^ s.pair r))

/-- ANMB to ANMD. -/
def andMemoryOp (r : Reg) (m : MemRef) (s : State) : Act State := withOperand m (fun s d => .ok (s.andInto r d)) s

/-- ORMB to ORMD. -/
def orMemoryOp (r : Reg) (m : MemRef) (s : State) : Act State :=
  withOperand m (fun s d => .ok (s.orInto r d.zeroExtend)) s

/-- EOMB to EOMD. -/
def xorMemoryOp (r : Reg) (m : MemRef) (s : State) : Act State :=
  withOperand m (fun s d => .ok (s.xorInto r d.zeroExtend)) s

/-- ANMB (43 R252). -/
def opAnmb (r : Reg) (m : MemRef) (s : State) : Act State := andMemoryOp r m s

/-- ANMB as an instruction of the program. -/
def execAnmb (r : Reg) (m : MemRef) (s : State) : Host.Outcome State Fault Refusal :=
  runWord (opAnmb r m) s

/-- ANMH (43 R253). -/
def opAnmh (r : Reg) (m : MemRef) (s : State) : Act State := andMemoryOp r m s

/-- ANMH as an instruction of the program. -/
def execAnmh (r : Reg) (m : MemRef) (s : State) : Host.Outcome State Fault Refusal :=
  runWord (opAnmh r m) s

/-- ANMW (43 R254). -/
def opAnmw (r : Reg) (m : MemRef) (s : State) : Act State := andMemoryOp r m s

/-- ANMW as an instruction of the program. -/
def execAnmw (r : Reg) (m : MemRef) (s : State) : Host.Outcome State Fault Refusal :=
  runWord (opAnmw r m) s

/-- ANMD (43 R255). -/
def opAnmd (r : Reg) (m : MemRef) (s : State) : Act State := andMemoryOp r m s

/-- ANMD as an instruction of the program. -/
def execAnmd (r : Reg) (m : MemRef) (s : State) : Host.Outcome State Fault Refusal :=
  runWord (opAnmd r m) s

/-- ANR (43 R256). -/
def opAnr (d src : Reg) (s : State) : Act State := 
  .ok (s.deliver d false (.one (s.reg src &&& s.reg d)))

/-- ANR as an instruction of the program. -/
def execAnr (d src : Reg) (s : State) : Host.Outcome State Fault Refusal :=
  runHalf (opAnr d src) s

/-- ORMB (43 R257). -/
def opOrmb (r : Reg) (m : MemRef) (s : State) : Act State := orMemoryOp r m s

/-- ORMB as an instruction of the program. -/
def execOrmb (r : Reg) (m : MemRef) (s : State) : Host.Outcome State Fault Refusal :=
  runWord (opOrmb r m) s

/-- ORMH (43 R258). -/
def opOrmh (r : Reg) (m : MemRef) (s : State) : Act State := orMemoryOp r m s

/-- ORMH as an instruction of the program. -/
def execOrmh (r : Reg) (m : MemRef) (s : State) : Host.Outcome State Fault Refusal :=
  runWord (opOrmh r m) s

/-- ORMW (43 R259). -/
def opOrmw (r : Reg) (m : MemRef) (s : State) : Act State := orMemoryOp r m s

/-- ORMW as an instruction of the program. -/
def execOrmw (r : Reg) (m : MemRef) (s : State) : Host.Outcome State Fault Refusal :=
  runWord (opOrmw r m) s

/-- ORMD (43 R260). -/
def opOrmd (r : Reg) (m : MemRef) (s : State) : Act State := orMemoryOp r m s

/-- ORMD as an instruction of the program. -/
def execOrmd (r : Reg) (m : MemRef) (s : State) : Host.Outcome State Fault Refusal :=
  runWord (opOrmd r m) s

/-- ORR (43 R261). -/
def opOrr (d src : Reg) (s : State) : Act State := 
  .ok (s.deliver d false (.one (s.reg src ||| s.reg d)))

/-- ORR as an instruction of the program. -/
def execOrr (d src : Reg) (s : State) : Host.Outcome State Fault Refusal :=
  runHalf (opOrr d src) s

/-- ORRM (43 R262). -/
def opOrrm (d src : Reg) (s : State) : Act State := 
  .ok (s.deliver d false (.one ((s.reg src ||| s.reg d) &&& s.mask)))

/-- ORRM as an instruction of the program. -/
def execOrrm (d src : Reg) (s : State) : Host.Outcome State Fault Refusal :=
  runHalf (opOrrm d src) s

/-- EOMB (43 R263). -/
def opEomb (r : Reg) (m : MemRef) (s : State) : Act State := xorMemoryOp r m s

/-- EOMB as an instruction of the program. -/
def execEomb (r : Reg) (m : MemRef) (s : State) : Host.Outcome State Fault Refusal :=
  runWord (opEomb r m) s

/-- EOMH (43 R264). -/
def opEomh (r : Reg) (m : MemRef) (s : State) : Act State := xorMemoryOp r m s

/-- EOMH as an instruction of the program. -/
def execEomh (r : Reg) (m : MemRef) (s : State) : Host.Outcome State Fault Refusal :=
  runWord (opEomh r m) s

/-- EOMW (43 R265). -/
def opEomw (r : Reg) (m : MemRef) (s : State) : Act State := xorMemoryOp r m s

/-- EOMW as an instruction of the program. -/
def execEomw (r : Reg) (m : MemRef) (s : State) : Host.Outcome State Fault Refusal :=
  runWord (opEomw r m) s

/-- EOMD (43 R266). -/
def opEomd (r : Reg) (m : MemRef) (s : State) : Act State := xorMemoryOp r m s

/-- EOMD as an instruction of the program. -/
def execEomd (r : Reg) (m : MemRef) (s : State) : Host.Outcome State Fault Refusal :=
  runWord (opEomd r m) s

/-- EOR (43 R268). -/
def opEor (d src : Reg) (s : State) : Act State := 
  .ok (s.deliver d false (.one (s.reg src ^^^ s.reg d)))

/-- EOR as an instruction of the program. -/
def execEor (d src : Reg) (s : State) : Host.Outcome State Fault Refusal :=
  runHalf (opEor d src) s

/-- EORM (43 R269). -/
def opEorm (d src : Reg) (s : State) : Act State := 
  .ok (s.deliver d false (.one ((s.reg src ^^^ s.reg d) &&& s.mask)))

/-- EORM as an instruction of the program. -/
def execEorm (d src : Reg) (s : State) : Host.Outcome State Fault Refusal :=
  runHalf (opEorm d src) s

end Sys2Proof.Machine
end

