-- ==== Sys2Proof/Machine/RegTransfer.lean ====
section
/-!
DEFINITION. The register transfer instructions (46_register_transfer.md).
-/

namespace Sys2Proof.Machine

/-- The protect register after TRP: 24 bits of a port-protected module, 16 bits of a page-protected one (46 R348). -/
def State.loadProtect (s : State) (m : BitVec 4) (v : Word) : State :=
  let old := s.protect[m.toNat]'m.isLt
  let new := if s.portProtected m then v.extractLsb' 0 24
    else if s.pageProtected m then old.extractLsb' 16 8 ++ v.extractLsb' 0 16
    else old
  { s with protect := s.protect.set m.toNat new m.isLt }

/-- What TPR reads (46 R349). -/
def State.readProtect (s : State) (m : BitVec 4) : Word :=
  if s.portProtected m then 0#8 ++ s.protectReg m
  else if s.pageProtected m then 0#16 ++ (s.protectReg m).extractLsb' 0 16
  else 0#32

/-- TRR (46 R342). -/
def opTrr (d src : Reg) (s : State) : Act State := 
  .ok (s.deliver d false (.one (s.reg src)))

/-- TRR as an instruction of the program. -/
def execTrr (d src : Reg) (s : State) : Host.Outcome State Fault Refusal :=
  runHalf (opTrr d src) s

/-- TRRM (46 R343). -/
def opTrrm (d src : Reg) (s : State) : Act State := 
  .ok (s.deliver d false (.one (s.reg src &&& s.mask)))

/-- TRRM as an instruction of the program. -/
def execTrrm (d src : Reg) (s : State) : Host.Outcome State Fault Refusal :=
  runHalf (opTrrm d src) s

/-- TRN (46 R344). -/
def opTrn (d src : Reg) (s : State) : Act State := 
  .ok (s.deliver d (s.reg src == minusFullScale 32) (.one (-(s.reg src))))

/-- TRN as an instruction of the program. -/
def execTrn (d src : Reg) (s : State) : Host.Outcome State Fault Refusal :=
  runHalf (opTrn d src) s

/-- TRNM (46 R345). -/
def opTrnm (d src : Reg) (s : State) : Act State := 
  .ok (s.deliver d (s.reg src == minusFullScale 32) (.one (-(s.reg src) &&& s.mask)))

/-- TRNM as an instruction of the program. -/
def execTrnm (d src : Reg) (s : State) : Host.Outcome State Fault Refusal :=
  runHalf (opTrnm d src) s

/-- TRC (46 R350). -/
def opTrc (d src : Reg) (s : State) : Act State := 
  .ok (s.deliver d false (.one (~~~(s.reg src))))

/-- TRC as an instruction of the program. -/
def execTrc (d src : Reg) (s : State) : Host.Outcome State Fault Refusal :=
  runHalf (opTrc d src) s

/-- TRCM (46 R351). -/
def opTrcm (d src : Reg) (s : State) : Act State := 
  .ok (s.deliver d false (.one (~~~(s.reg src) &&& s.mask)))

/-- TRCM as an instruction of the program. -/
def execTrcm (d src : Reg) (s : State) : Host.Outcome State Fault Refusal :=
  runHalf (opTrcm d src) s

/-- XCR (46 R346). -/
def opXcr (d src : Reg) (s : State) : Act State := 
  let x := s.reg d
  let y := s.reg src
  .ok (((s.setReg d y).setReg src x).setCC (scc false x))

/-- XCR as an instruction of the program. -/
def execXcr (d src : Reg) (s : State) : Host.Outcome State Fault Refusal :=
  runHalf (opXcr d src) s

/-- XCRM (46 R347). -/
def opXcrm (d src : Reg) (s : State) : Act State := 
  let x := s.reg d &&& s.mask
  let y := s.reg src &&& s.mask
  .ok (((s.setReg d y).setReg src x).setCC (scc false x))

/-- XCRM as an instruction of the program. -/
def execXcrm (d src : Reg) (s : State) : Host.Outcome State Fault Refusal :=
  runHalf (opXcrm d src) s

/-- TRP: privileged, and excluded in the Semi-Privileged state (46 R348). -/
def opTrp (m : BitVec 4) (r : Reg) (s : State) : Act State := 
  if !s.cfg.optRtm then .error (.trap .undefinedInstruction s)
  else if s.notPrivileged then .error (.trap .privilegeViolation s)
  else .ok (s.loadProtect m (s.reg r))

/-- TRP as an instruction of the program. -/
def execTrp (m : BitVec 4) (r : Reg) (s : State) : Host.Outcome State Fault Refusal :=
  runWord (opTrp m r) s

/-- TPR (46 R349). -/
def opTpr (m : BitVec 4) (r : Reg) (s : State) : Act State := 
  if !s.cfg.optRtm then .error (.trap .undefinedInstruction s)
  else if s.portProtected m && s.port2 m == 0#2 then .error (.trap .nonPresentMemory s)
  else .ok (s.setReg r (s.readProtect m))

/-- TPR as an instruction of the program. -/
def execTpr (m : BitVec 4) (r : Reg) (s : State) : Host.Outcome State Fault Refusal :=
  runWord (opTpr m r) s

/-- TRSW (46 R358). -/
def opTrsw (r : Reg) (s : State) : Act State := 
  .ok { s with psw := s.psw.load (s.reg r) }

/-- TRSW as an instruction of the program. -/
def execTrsw (r : Reg) (s : State) : Host.Outcome State Fault Refusal :=
  runHalf (opTrsw r) s

end Sys2Proof.Machine
end

