-- ==== Sys2Proof/Machine/Shift.lean ====
section
/-!
DEFINITION. The shift and normalize instructions (47_shift.md).
-/

namespace Sys2Proof.Machine

/-- Some of the `n` bits that leave position 1 differs from the sign (47 R366). -/
def lostBitDiffers {w : Nat} (x : BitVec w) (n : BitVec 5) : Bool :=
  (List.range n.toNat).any fun i => bitAt x (i + 1) != x.msb

/-- SLA: the sign stays, zeros enter on the right (47 R366). -/
def shiftLeftArithmetic (x : Word) (n : BitVec 5) : Word :=
  BitVec.ofBool x.msb ++ (x.extractLsb' 0 31 <<< n.toNat)

/-- SLAD (47 R369). -/
def shiftLeftArithmeticDouble (x : DWord) (n : BitVec 5) : DWord :=
  BitVec.ofBool x.msb ++ (x.extractLsb' 0 63 <<< n.toNat)

/-- The condition code of SLA and SLAD: CC1 alone, with the request (47 R366). -/
def overflowCC (v : Bool) : CC := ⟨v, false, false, false⟩

/-- The sign bit and the four bits after it are all equal: the next shift by four keeps the sign (47 R363). -/
def topFiveEqual {w : Nat} (x : BitVec w) : Bool :=
  bitAt x 1 == x.msb && bitAt x 2 == x.msb && bitAt x 3 == x.msb && bitAt x 4 == x.msb

/-- Shift left by four while the top five bits are equal, at most `fuel` times; the pattern and the number of shifts
(47 R363, R364). -/
def normalizeBy {w : Nat} : Nat → BitVec w → Nat → BitVec w × Nat
  | 0, x, k => (x, k)
  | fuel + 1, x, k => if topFiveEqual x then normalizeBy fuel (x <<< 4) (k + 1) else (x, k)

/-- The pattern and exponent of NOR and NORD; zero gives exponent zero.  A nonzero word needs at most 7 shifts and a
doubleword at most 15 (47 R363, R364). -/
def normalize {w : Nat} (x : BitVec w) : BitVec w × Word :=
  if x = 0#w then (x, 0#32)
  else
    let p := normalizeBy (w / 4) x 0
    (p.1, BitVec.ofNat 32 (0x40 - p.2))

/-- The position of the most significant one of a nonzero word (47 R365). -/
def leadingZeros (x : Word) : Nat := 31 - Nat.log2 x.toNat

/-- NOR: the exponent is written last (47 R363). -/
def opNor (a b : Reg) (s : State) : Act State := 
  let p := normalize (s.reg a)
  .ok ((s.setReg a p.1).setReg b p.2)

/-- NOR as an instruction of the program. -/
def execNor (a b : Reg) (s : State) : Host.Outcome State Fault Refusal :=
  runHalf (opNor a b) s

/-- NORD: the exponent is written last (47 R364). -/
def opNord (a b : Reg) (s : State) : Act State := 
  let p := normalize (s.pair a)
  .ok ((s.setPair a p.1).setReg b p.2)

/-- NORD as an instruction of the program. -/
def execNord (a b : Reg) (s : State) : Host.Outcome State Fault Refusal :=
  runHalf (opNord a b) s

/-- SCZ: the count is written last (47 R365). -/
def opScz (a b : Reg) (s : State) : Act State := 
  let x := s.reg a
  let c := if x = 0#32 then 0 else leadingZeros x
  let v := if x = 0#32 then x else x <<< (c + 1)
  .ok (((s.setReg a v).setReg b (BitVec.ofNat 32 c)).setCC ⟨false, false, false, x == 0#32⟩)

/-- SCZ as an instruction of the program. -/
def execScz (a b : Reg) (s : State) : Host.Outcome State Fault Refusal :=
  runHalf (opScz a b) s

/-- SLA (47 R366). -/
def opSla (r : Reg) (n : BitVec 5) (s : State) : Act State := 
  let x := s.reg r
  .ok ((s.setReg r (shiftLeftArithmetic x n)).finishArithmetic (overflowCC (lostBitDiffers x n)))

/-- SLA as an instruction of the program. -/
def execSla (r : Reg) (n : BitVec 5) (s : State) : Host.Outcome State Fault Refusal :=
  runHalf (opSla r n) s

/-- SLL (47 R367). -/
def opSll (r : Reg) (n : BitVec 5) (s : State) : Act State := 
  .ok (s.setReg r (s.reg r <<< n.toNat))

/-- SLL as an instruction of the program. -/
def execSll (r : Reg) (n : BitVec 5) (s : State) : Host.Outcome State Fault Refusal :=
  runHalf (opSll r n) s

/-- SLC (47 R368). -/
def opSlc (r : Reg) (n : BitVec 5) (s : State) : Act State := 
  .ok (s.setReg r ((s.reg r).rotateLeft n.toNat))

/-- SLC as an instruction of the program. -/
def execSlc (r : Reg) (n : BitVec 5) (s : State) : Host.Outcome State Fault Refusal :=
  runHalf (opSlc r n) s

/-- SLAD (47 R369). -/
def opSlad (r : Reg) (n : BitVec 5) (s : State) : Act State := 
  let x := s.pair r
  .ok ((s.setPair r (shiftLeftArithmeticDouble x n)).finishArithmetic (overflowCC (lostBitDiffers x n)))

/-- SLAD as an instruction of the program. -/
def execSlad (r : Reg) (n : BitVec 5) (s : State) : Host.Outcome State Fault Refusal :=
  runHalf (opSlad r n) s

/-- SLLD (47 R370). -/
def opSlld (r : Reg) (n : BitVec 5) (s : State) : Act State := 
  .ok (s.setPair r (s.pair r <<< n.toNat))

/-- SLLD as an instruction of the program. -/
def execSlld (r : Reg) (n : BitVec 5) (s : State) : Host.Outcome State Fault Refusal :=
  runHalf (opSlld r n) s

/-- SRA (47 R371). -/
def opSra (r : Reg) (n : BitVec 5) (s : State) : Act State := 
  .ok (s.setReg r ((s.reg r).sshiftRight n.toNat))

/-- SRA as an instruction of the program. -/
def execSra (r : Reg) (n : BitVec 5) (s : State) : Host.Outcome State Fault Refusal :=
  runHalf (opSra r n) s

/-- SRL (47 R372). -/
def opSrl (r : Reg) (n : BitVec 5) (s : State) : Act State := 
  .ok (s.setReg r (s.reg r >>> n.toNat))

/-- SRL as an instruction of the program. -/
def execSrl (r : Reg) (n : BitVec 5) (s : State) : Host.Outcome State Fault Refusal :=
  runHalf (opSrl r n) s

/-- SRC (47 R373). -/
def opSrc (r : Reg) (n : BitVec 5) (s : State) : Act State := 
  .ok (s.setReg r ((s.reg r).rotateRight n.toNat))

/-- SRC as an instruction of the program. -/
def execSrc (r : Reg) (n : BitVec 5) (s : State) : Host.Outcome State Fault Refusal :=
  runHalf (opSrc r n) s

/-- SRAD (47 R374). -/
def opSrad (r : Reg) (n : BitVec 5) (s : State) : Act State := 
  .ok (s.setPair r ((s.pair r).sshiftRight n.toNat))

/-- SRAD as an instruction of the program. -/
def execSrad (r : Reg) (n : BitVec 5) (s : State) : Host.Outcome State Fault Refusal :=
  runHalf (opSrad r n) s

/-- SRLD (47 R375). -/
def opSrld (r : Reg) (n : BitVec 5) (s : State) : Act State := 
  .ok (s.setPair r (s.pair r >>> n.toNat))

/-- SRLD as an instruction of the program. -/
def execSrld (r : Reg) (n : BitVec 5) (s : State) : Host.Outcome State Fault Refusal :=
  runHalf (opSrld r n) s

end Sys2Proof.Machine
end

