-- ==== Sys2Proof/Machine/Store.lean ====
section
/-!
DEFINITION. The store and zero memory instructions (40_load_store.md).
-/

namespace Sys2Proof.Machine

/-- Form the effective address and store what `f` gives for its format (40 R140, R141). -/
def storing (m : MemRef) (f : Format → Datum) (s : State) : Act State := do
  let (e, s) ← effAddr s m
  store s e (f e.format)

/-- STB to STD (40 R160 to R163). -/
def storeOp (r : Reg) (m : MemRef) (s : State) : Act State := storing m (s.storeDatum r) s

/-- STMB to STMD (40 R164 to R167). -/
def storeMaskedOp (r : Reg) (m : MemRef) (s : State) : Act State :=
  storing m (fun k => (s.storeDatum r k).masked s.mask) s

/-- ZMB to ZMD (40 R170 to R173). -/
def zeroMemoryOp (m : MemRef) (s : State) : Act State := storing m Format.zero s

/-- Store each register of a list into its word. -/
def storeFile (w : WordAddr) (r : Reg) : List Reg → State → State
  | [], t => t
  | n :: ns, t => storeFile w r ns (t.writeWord (fileWord w r n) (t.reg n))

/-- STB (40 R160). -/
def opStb (r : Reg) (m : MemRef) (s : State) : Act State := storeOp r m s

/-- STB as an instruction of the program. -/
def execStb (r : Reg) (m : MemRef) (s : State) : Host.Outcome State Fault Refusal :=
  runWord (opStb r m) s

/-- STH (40 R161). -/
def opSth (r : Reg) (m : MemRef) (s : State) : Act State := storeOp r m s

/-- STH as an instruction of the program. -/
def execSth (r : Reg) (m : MemRef) (s : State) : Host.Outcome State Fault Refusal :=
  runWord (opSth r m) s

/-- STW (40 R162). -/
def opStw (r : Reg) (m : MemRef) (s : State) : Act State := storeOp r m s

/-- STW as an instruction of the program. -/
def execStw (r : Reg) (m : MemRef) (s : State) : Host.Outcome State Fault Refusal :=
  runWord (opStw r m) s

/-- STD (40 R163). -/
def opStd (r : Reg) (m : MemRef) (s : State) : Act State := storeOp r m s

/-- STD as an instruction of the program. -/
def execStd (r : Reg) (m : MemRef) (s : State) : Host.Outcome State Fault Refusal :=
  runWord (opStd r m) s

/-- STMB (40 R164). -/
def opStmb (r : Reg) (m : MemRef) (s : State) : Act State := storeMaskedOp r m s

/-- STMB as an instruction of the program. -/
def execStmb (r : Reg) (m : MemRef) (s : State) : Host.Outcome State Fault Refusal :=
  runWord (opStmb r m) s

/-- STMH (40 R165). -/
def opStmh (r : Reg) (m : MemRef) (s : State) : Act State := storeMaskedOp r m s

/-- STMH as an instruction of the program. -/
def execStmh (r : Reg) (m : MemRef) (s : State) : Host.Outcome State Fault Refusal :=
  runWord (opStmh r m) s

/-- STMW (40 R166). -/
def opStmw (r : Reg) (m : MemRef) (s : State) : Act State := storeMaskedOp r m s

/-- STMW as an instruction of the program. -/
def execStmw (r : Reg) (m : MemRef) (s : State) : Host.Outcome State Fault Refusal :=
  runWord (opStmw r m) s

/-- STMD (40 R167). -/
def opStmd (r : Reg) (m : MemRef) (s : State) : Act State := storeMaskedOp r m s

/-- STMD as an instruction of the program. -/
def execStmd (r : Reg) (m : MemRef) (s : State) : Host.Outcome State Fault Refusal :=
  runWord (opStmd r m) s

/-- STF: all words lie in one page, checked once (40 R181). -/
def opStf (r : Reg) (m : MemRef) (s : State) : Act State := do
  let (e, s) ← effAddr s m
  checkWrite s e.word
  return storeFile e.word r (fileRegs r) s

/-- STF as an instruction of the program. -/
def execStf (r : Reg) (m : MemRef) (s : State) : Host.Outcome State Fault Refusal :=
  runWord (opStf r m) s

/-- ZMB (40 R170). -/
def opZmb (m : MemRef) (s : State) : Act State := zeroMemoryOp m s

/-- ZMB as an instruction of the program. -/
def execZmb (m : MemRef) (s : State) : Host.Outcome State Fault Refusal :=
  runWord (opZmb m) s

/-- ZMH (40 R171). -/
def opZmh (m : MemRef) (s : State) : Act State := zeroMemoryOp m s

/-- ZMH as an instruction of the program. -/
def execZmh (m : MemRef) (s : State) : Host.Outcome State Fault Refusal :=
  runWord (opZmh m) s

/-- ZMW (40 R172). -/
def opZmw (m : MemRef) (s : State) : Act State := zeroMemoryOp m s

/-- ZMW as an instruction of the program. -/
def execZmw (m : MemRef) (s : State) : Host.Outcome State Fault Refusal :=
  runWord (opZmw m) s

/-- ZMD (40 R173). -/
def opZmd (m : MemRef) (s : State) : Act State := zeroMemoryOp m s

/-- ZMD as an instruction of the program. -/
def execZmd (m : MemRef) (s : State) : Host.Outcome State Fault Refusal :=
  runWord (opZmd m) s

/-- ZR (40 R186). -/
def opZr (d : Reg) (s : State) : Act State := 
  .ok ((s.setReg d 0#32).setCC ⟨false, false, false, true⟩)

/-- ZR as an instruction of the program. -/
def execZr (d : Reg) (s : State) : Host.Outcome State Fault Refusal :=
  runHalf (opZr d) s

end Sys2Proof.Machine
end

