-- ==== Sys2Proof/Machine/Execute.lean ====
section
/-!
DEFINITION. The execute instructions EXR, EXRR and EXM (48_control.md R390 to R392, R398).
-/

namespace Sys2Proof.Machine

/-- What an instruction does as the subject of an execute instruction, the program count already advanced past the
execute instruction; an execute instruction is no subject (48 R398). -/
def subjectOp (i : Instr) (s : State) : Act State :=
  match i with
  | .lb r m => opLb r m s
  | .lh r m => opLh r m s
  | .lw r m => opLw r m s
  | .ld r m => opLd r m s
  | .lmb r m => opLmb r m s
  | .lmh r m => opLmh r m s
  | .lmw r m => opLmw r m s
  | .lmd r m => opLmd r m s
  | .lnb r m => opLnb r m s
  | .lnh r m => opLnh r m s
  | .lnw r m => opLnw r m s
  | .lnd r m => opLnd r m s
  | .li r imm => opLi r imm s
  | .lea r m => opLea r m s
  | .stb r m => opStb r m s
  | .sth r m => opSth r m s
  | .stw r m => opStw r m s
  | .std r m => opStd r m s
  | .stmb r m => opStmb r m s
  | .stmh r m => opStmh r m s
  | .stmw r m => opStmw r m s
  | .stmd r m => opStmd r m s
  | .zmb m => opZmb m s
  | .zmh m => opZmh m s
  | .zmw m => opZmw m s
  | .zmd m => opZmd m s
  | .lcs r => opLcs r s
  | .lf r m => opLf r m s
  | .stf r m => opStf r m s
  | .zr d => opZr d s
  | .admb r m => opAdmb r m s
  | .admh r m => opAdmh r m s
  | .admw r m => opAdmw r m s
  | .admd r m => opAdmd r m s
  | .adr d src => opAdr d src s
  | .adrm d src => opAdrm d src s
  | .armb r m => opArmb r m s
  | .armh r m => opArmh r m s
  | .armw r m => opArmw r m s
  | .armd r m => opArmd r m s
  | .adi r imm => opAdi r imm s
  | .sumb r m => opSumb r m s
  | .sumh r m => opSumh r m s
  | .sumw r m => opSumw r m s
  | .sumd r m => opSumd r m s
  | .sur d src => opSur d src s
  | .surm d src => opSurm d src s
  | .sui r imm => opSui r imm s
  | .mpmb r m => opMpmb r m s
  | .mpmh r m => opMpmh r m s
  | .mpmw r m => opMpmw r m s
  | .mpr d src => opMpr d src s
  | .mpi r imm => opMpi r imm s
  | .dvmb r m => opDvmb r m s
  | .dvmh r m => opDvmh r m s
  | .dvmw r m => opDvmw r m s
  | .dvr d src => opDvr d src s
  | .dvi r imm => opDvi r imm s
  | .es r => opEs r s
  | .rnd r => opRnd r s
  | .adfw r m => opAdfw r m s
  | .adfd r m => opAdfd r m s
  | .sufw r m => opSufw r m s
  | .sufd r m => opSufd r m s
  | .mpfw r m => opMpfw r m s
  | .mpfd r m => opMpfd r m s
  | .dvfw r m => opDvfw r m s
  | .dvfd r m => opDvfd r m s
  | .anmb r m => opAnmb r m s
  | .anmh r m => opAnmh r m s
  | .anmw r m => opAnmw r m s
  | .anmd r m => opAnmd r m s
  | .anr d src => opAnr d src s
  | .ormb r m => opOrmb r m s
  | .ormh r m => opOrmh r m s
  | .ormw r m => opOrmw r m s
  | .ormd r m => opOrmd r m s
  | .orr d src => opOrr d src s
  | .orrm d src => opOrrm d src s
  | .eomb r m => opEomb r m s
  | .eomh r m => opEomh r m s
  | .eomw r m => opEomw r m s
  | .eomd r m => opEomd r m s
  | .eor d src => opEor d src s
  | .eorm d src => opEorm d src s
  | .sbm n m => opSbm n m s
  | .sbr n r y => opSbr n r y s
  | .zbm n m => opZbm n m s
  | .zbr n r y => opZbr n r y s
  | .abm n m => opAbm n m s
  | .abr n r y => opAbr n r y s
  | .tbm n m => opTbm n m s
  | .tbr n r y => opTbr n r y s
  | .camb r m => opCamb r m s
  | .camh r m => opCamh r m s
  | .camw r m => opCamw r m s
  | .camd r m => opCamd r m s
  | .car d src => opCar d src s
  | .ci r imm => opCi r imm s
  | .cmmb r m => opCmmb r m s
  | .cmmh r m => opCmmh r m s
  | .cmmw r m => opCmmw r m s
  | .cmmd r m => opCmmd r m s
  | .cmr d src => opCmr d src s
  | .bu m => opBu m s
  | .bct d m => opBct d m s
  | .bcf d m => opBcf d m s
  | .bft m => opBft m s
  | .bl m => opBl m s
  | .bib r m => opBib r m s
  | .bih r m => opBih r m s
  | .biw r m => opBiw r m s
  | .bid r m => opBid r m s
  | .bri m => opBri m s
  | .trr d src => opTrr d src s
  | .trrm d src => opTrrm d src s
  | .trn d src => opTrn d src s
  | .trnm d src => opTrnm d src s
  | .xcr d src => opXcr d src s
  | .xcrm d src => opXcrm d src s
  | .trc d src => opTrc d src s
  | .trcm d src => opTrcm d src s
  | .trp m r => opTrp m r s
  | .tpr m r => opTpr m r s
  | .trsw r => opTrsw r s
  | .nor a b => opNor a b s
  | .nord a b => opNord a b s
  | .scz a b => opScz a b s
  | .sla r n => opSla r n s
  | .sll r n => opSll r n s
  | .slc r n => opSlc r n s
  | .slad r n => opSlad r n s
  | .slld r n => opSlld r n s
  | .sra r n => opSra r n s
  | .srl r n => opSrl r n s
  | .src r n => opSrc r n s
  | .srad r n => opSrad r n s
  | .srld r n => opSrld r n s
  | .exr _ => .error (.trap .undefinedInstruction s)
  | .exrr _ => .error (.trap .undefinedInstruction s)
  | .exm _ => .error (.trap .undefinedInstruction s)
  | .halt => opHalt s
  | .wait => opWait s
  | .nop => opNop s
  | .calm flags => opCalm flags s
  | .ei n => opEi n s
  | .di n => opDi n s
  | .ri n => opRi n s
  | .ai n => opAi n s
  | .dai n => opDai n s
  | .cd device code => opCd device code s
  | .td device code => opTd device code s

/-- Run the bytes of an instruction register as a subject; no instruction is the undefined instruction trap
(48 R398). -/
def executeSubject (bytes : List Byte) (s : State) : Act State :=
  match decode bytes with
  | .ok i => subjectOp i s
  | .error _ => .error (.trap .undefinedInstruction s)

/-- EXR: the left halfword, or the whole word (48 R390). -/
def opExr (r : Reg) (s : State) : Act State := 
  executeSubject (wordBytes (s.reg r)) s

/-- EXR as an instruction of the program. -/
def execExr (r : Reg) (s : State) : Host.Outcome State Fault Refusal :=
  runWord (opExr r) s

/-- EXRR: the right halfword alone (48 R391). -/
def opExrr (r : Reg) (s : State) : Act State := 
  executeSubject (halfBytes ((s.reg r).extractLsb' 0 16)) s

/-- EXRR as an instruction of the program. -/
def execExrr (r : Reg) (s : State) : Host.Outcome State Fault Refusal :=
  runWord (opExrr r) s

/-- EXM: bit 30 of the raw address selects the halfword (48 R392). -/
def opExm (m : MemRef) (s : State) : Act State := do
  let (e, s) ← effAddr s m
  let (w, s) ← readWord s e.word
  if e.raw.getLsbD 1 then executeSubject (halfBytes (w.extractLsb' 0 16)) s
  else executeSubject (wordBytes w) s

/-- EXM as an instruction of the program. -/
def execExm (m : MemRef) (s : State) : Host.Outcome State Fault Refusal :=
  runWord (opExm m) s

end Sys2Proof.Machine
end

