-- ==== Sys2Proof/Machine/Dispatch.lean ====
section
/-! DEFINITION. One arm per instruction, each one direct call of its meaning. -/

namespace Sys2Proof.Machine

def exec (i : Instr) (s : State) : Host.Outcome State Fault Refusal :=
  match i with
  | .lb r m => Sys2Proof.Machine.execLb r m s
  | .lh r m => Sys2Proof.Machine.execLh r m s
  | .lw r m => Sys2Proof.Machine.execLw r m s
  | .ld r m => Sys2Proof.Machine.execLd r m s
  | .lmb r m => Sys2Proof.Machine.execLmb r m s
  | .lmh r m => Sys2Proof.Machine.execLmh r m s
  | .lmw r m => Sys2Proof.Machine.execLmw r m s
  | .lmd r m => Sys2Proof.Machine.execLmd r m s
  | .lnb r m => Sys2Proof.Machine.execLnb r m s
  | .lnh r m => Sys2Proof.Machine.execLnh r m s
  | .lnw r m => Sys2Proof.Machine.execLnw r m s
  | .lnd r m => Sys2Proof.Machine.execLnd r m s
  | .li r imm => Sys2Proof.Machine.execLi r imm s
  | .lea r m => Sys2Proof.Machine.execLea r m s
  | .stb r m => Sys2Proof.Machine.execStb r m s
  | .sth r m => Sys2Proof.Machine.execSth r m s
  | .stw r m => Sys2Proof.Machine.execStw r m s
  | .std r m => Sys2Proof.Machine.execStd r m s
  | .stmb r m => Sys2Proof.Machine.execStmb r m s
  | .stmh r m => Sys2Proof.Machine.execStmh r m s
  | .stmw r m => Sys2Proof.Machine.execStmw r m s
  | .stmd r m => Sys2Proof.Machine.execStmd r m s
  | .zmb m => Sys2Proof.Machine.execZmb m s
  | .zmh m => Sys2Proof.Machine.execZmh m s
  | .zmw m => Sys2Proof.Machine.execZmw m s
  | .zmd m => Sys2Proof.Machine.execZmd m s
  | .lcs r => Sys2Proof.Machine.execLcs r s
  | .lf r m => Sys2Proof.Machine.execLf r m s
  | .stf r m => Sys2Proof.Machine.execStf r m s
  | .zr d => Sys2Proof.Machine.execZr d s
  | .admb r m => Sys2Proof.Machine.execAdmb r m s
  | .admh r m => Sys2Proof.Machine.execAdmh r m s
  | .admw r m => Sys2Proof.Machine.execAdmw r m s
  | .admd r m => Sys2Proof.Machine.execAdmd r m s
  | .adr d src => Sys2Proof.Machine.execAdr d src s
  | .adrm d src => Sys2Proof.Machine.execAdrm d src s
  | .armb r m => Sys2Proof.Machine.execArmb r m s
  | .armh r m => Sys2Proof.Machine.execArmh r m s
  | .armw r m => Sys2Proof.Machine.execArmw r m s
  | .armd r m => Sys2Proof.Machine.execArmd r m s
  | .adi r imm => Sys2Proof.Machine.execAdi r imm s
  | .sumb r m => Sys2Proof.Machine.execSumb r m s
  | .sumh r m => Sys2Proof.Machine.execSumh r m s
  | .sumw r m => Sys2Proof.Machine.execSumw r m s
  | .sumd r m => Sys2Proof.Machine.execSumd r m s
  | .sur d src => Sys2Proof.Machine.execSur d src s
  | .surm d src => Sys2Proof.Machine.execSurm d src s
  | .sui r imm => Sys2Proof.Machine.execSui r imm s
  | .mpmb r m => Sys2Proof.Machine.execMpmb r m s
  | .mpmh r m => Sys2Proof.Machine.execMpmh r m s
  | .mpmw r m => Sys2Proof.Machine.execMpmw r m s
  | .mpr d src => Sys2Proof.Machine.execMpr d src s
  | .mpi r imm => Sys2Proof.Machine.execMpi r imm s
  | .dvmb r m => Sys2Proof.Machine.execDvmb r m s
  | .dvmh r m => Sys2Proof.Machine.execDvmh r m s
  | .dvmw r m => Sys2Proof.Machine.execDvmw r m s
  | .dvr d src => Sys2Proof.Machine.execDvr d src s
  | .dvi r imm => Sys2Proof.Machine.execDvi r imm s
  | .es r => Sys2Proof.Machine.execEs r s
  | .rnd r => Sys2Proof.Machine.execRnd r s
  | .adfw r m => Sys2Proof.Machine.execAdfw r m s
  | .adfd r m => Sys2Proof.Machine.execAdfd r m s
  | .sufw r m => Sys2Proof.Machine.execSufw r m s
  | .sufd r m => Sys2Proof.Machine.execSufd r m s
  | .mpfw r m => Sys2Proof.Machine.execMpfw r m s
  | .mpfd r m => Sys2Proof.Machine.execMpfd r m s
  | .dvfw r m => Sys2Proof.Machine.execDvfw r m s
  | .dvfd r m => Sys2Proof.Machine.execDvfd r m s
  | .anmb r m => Sys2Proof.Machine.execAnmb r m s
  | .anmh r m => Sys2Proof.Machine.execAnmh r m s
  | .anmw r m => Sys2Proof.Machine.execAnmw r m s
  | .anmd r m => Sys2Proof.Machine.execAnmd r m s
  | .anr d src => Sys2Proof.Machine.execAnr d src s
  | .ormb r m => Sys2Proof.Machine.execOrmb r m s
  | .ormh r m => Sys2Proof.Machine.execOrmh r m s
  | .ormw r m => Sys2Proof.Machine.execOrmw r m s
  | .ormd r m => Sys2Proof.Machine.execOrmd r m s
  | .orr d src => Sys2Proof.Machine.execOrr d src s
  | .orrm d src => Sys2Proof.Machine.execOrrm d src s
  | .eomb r m => Sys2Proof.Machine.execEomb r m s
  | .eomh r m => Sys2Proof.Machine.execEomh r m s
  | .eomw r m => Sys2Proof.Machine.execEomw r m s
  | .eomd r m => Sys2Proof.Machine.execEomd r m s
  | .eor d src => Sys2Proof.Machine.execEor d src s
  | .eorm d src => Sys2Proof.Machine.execEorm d src s
  | .sbm n m => Sys2Proof.Machine.execSbm n m s
  | .sbr n r y => Sys2Proof.Machine.execSbr n r y s
  | .zbm n m => Sys2Proof.Machine.execZbm n m s
  | .zbr n r y => Sys2Proof.Machine.execZbr n r y s
  | .abm n m => Sys2Proof.Machine.execAbm n m s
  | .abr n r y => Sys2Proof.Machine.execAbr n r y s
  | .tbm n m => Sys2Proof.Machine.execTbm n m s
  | .tbr n r y => Sys2Proof.Machine.execTbr n r y s
  | .camb r m => Sys2Proof.Machine.execCamb r m s
  | .camh r m => Sys2Proof.Machine.execCamh r m s
  | .camw r m => Sys2Proof.Machine.execCamw r m s
  | .camd r m => Sys2Proof.Machine.execCamd r m s
  | .car d src => Sys2Proof.Machine.execCar d src s
  | .ci r imm => Sys2Proof.Machine.execCi r imm s
  | .cmmb r m => Sys2Proof.Machine.execCmmb r m s
  | .cmmh r m => Sys2Proof.Machine.execCmmh r m s
  | .cmmw r m => Sys2Proof.Machine.execCmmw r m s
  | .cmmd r m => Sys2Proof.Machine.execCmmd r m s
  | .cmr d src => Sys2Proof.Machine.execCmr d src s
  | .bu m => Sys2Proof.Machine.execBu m s
  | .bct d m => Sys2Proof.Machine.execBct d m s
  | .bcf d m => Sys2Proof.Machine.execBcf d m s
  | .bft m => Sys2Proof.Machine.execBft m s
  | .bl m => Sys2Proof.Machine.execBl m s
  | .bib r m => Sys2Proof.Machine.execBib r m s
  | .bih r m => Sys2Proof.Machine.execBih r m s
  | .biw r m => Sys2Proof.Machine.execBiw r m s
  | .bid r m => Sys2Proof.Machine.execBid r m s
  | .bri m => Sys2Proof.Machine.execBri m s
  | .trr d src => Sys2Proof.Machine.execTrr d src s
  | .trrm d src => Sys2Proof.Machine.execTrrm d src s
  | .trn d src => Sys2Proof.Machine.execTrn d src s
  | .trnm d src => Sys2Proof.Machine.execTrnm d src s
  | .xcr d src => Sys2Proof.Machine.execXcr d src s
  | .xcrm d src => Sys2Proof.Machine.execXcrm d src s
  | .trc d src => Sys2Proof.Machine.execTrc d src s
  | .trcm d src => Sys2Proof.Machine.execTrcm d src s
  | .trp m r => Sys2Proof.Machine.execTrp m r s
  | .tpr m r => Sys2Proof.Machine.execTpr m r s
  | .trsw r => Sys2Proof.Machine.execTrsw r s
  | .nor a b => Sys2Proof.Machine.execNor a b s
  | .nord a b => Sys2Proof.Machine.execNord a b s
  | .scz a b => Sys2Proof.Machine.execScz a b s
  | .sla r n => Sys2Proof.Machine.execSla r n s
  | .sll r n => Sys2Proof.Machine.execSll r n s
  | .slc r n => Sys2Proof.Machine.execSlc r n s
  | .slad r n => Sys2Proof.Machine.execSlad r n s
  | .slld r n => Sys2Proof.Machine.execSlld r n s
  | .sra r n => Sys2Proof.Machine.execSra r n s
  | .srl r n => Sys2Proof.Machine.execSrl r n s
  | .src r n => Sys2Proof.Machine.execSrc r n s
  | .srad r n => Sys2Proof.Machine.execSrad r n s
  | .srld r n => Sys2Proof.Machine.execSrld r n s
  | .exr r => Sys2Proof.Machine.execExr r s
  | .exrr r => Sys2Proof.Machine.execExrr r s
  | .exm m => Sys2Proof.Machine.execExm m s
  | .halt => Sys2Proof.Machine.execHalt s
  | .wait => Sys2Proof.Machine.execWait s
  | .nop => Sys2Proof.Machine.execNop s
  | .calm flags => Sys2Proof.Machine.execCalm flags s
  | .ei n => Sys2Proof.Machine.execEi n s
  | .di n => Sys2Proof.Machine.execDi n s
  | .ri n => Sys2Proof.Machine.execRi n s
  | .ai n => Sys2Proof.Machine.execAi n s
  | .dai n => Sys2Proof.Machine.execDai n s
  | .cd device code => Sys2Proof.Machine.execCd device code s
  | .td device code => Sys2Proof.Machine.execTd device code s

end Sys2Proof.Machine
end

