-- ==== Sys2Proof/Machine/Step.lean ====
section
/-! DEFINITION. One step of the machine (70_reset_and_hazards.md, 60_exceptions.md R454, 00_scope.md R16). -/

namespace Sys2Proof.Machine

/-- One step: what stands before an instruction, then the instruction or its trap. -/
def step (s : State) : Host.Outcome State Fault Refusal :=
  match prepare s with
  | .idle t => .next t
  | .stopped f => .fault f
  | .trapped t len s' => raise t len s'
  | .run i s' => exec i s'

/-- The state with an instruction stored where `step` fetches its next instruction (log 7). -/
def State.withFetchWord (s : State) (nbits w : Nat) : State := placeInstruction s nbits w

end Sys2Proof.Machine
end

