-- ==== Sys2Proof/Safety.lean ====
section
/-!
DEFINITION. What the statements call a legal state, and the invariant that every step keeps.
-/

namespace Sys2Proof.Machine

/-- The representation invariant: memory and the list of words with bad parity are in their canonical forms
(10_state.md R42, R43; log 5). -/
def State.canonical (s : State) : Bool := Memory.wf s.mem && parityWfFrom 0 s.parityBad

/-- Levels 02H to 11H, the transfer interrupts, have no latches the processor can see (60_exceptions.md R453). -/
def State.transferLatchesClear (s : State) : Bool :=
  (List.range 16).all fun k =>
    !hasLevel s.enabled (BitVec.ofNat 7 (0x02 + k)) && !hasLevel s.active (BitVec.ofNat 7 (0x02 + k))

/-- Levels 00H and 01H have no enabled latch (60 R453). -/
def State.protectLatchesClear (s : State) : Bool := !hasLevel s.enabled 0x00#7 && !hasLevel s.enabled 0x01#7

/-- SEMI is the third CP state of the privileged operation feature: without the option it is never set, and the CP acts
as privileged (60 R460, R461). -/
def State.semiLegal (s : State) : Bool := s.cfg.optRtm || !s.semi

/-- The invariant; the installation is one of 00_scope.md R6. -/
def State.Inv (s : State) : Bool :=
  s.canonical && s.transferLatchesClear && s.protectLatchesClear && s.semiLegal && s.cfg.legal

/-- `u` is `s` after things on the memory bus: nothing but memory, its parity, the channels and the service interrupt
requests is touched (49_interrupt_io.md R425). -/
def BusOnly (s u : State) : Prop :=
  u = { s with mem := u.mem, parityBad := u.parityBad, channels := u.channels, request := u.request, within := u.within }

/-- The run goes on: the outcome is no fault and no refusal. -/
def goesOn (o : Host.Outcome State Fault Refusal) : Bool :=
  match o with
  | .next _ => true
  | .fault _ => false
  | .refused _ => false

/-! ## The terms of the statements: integers instead of patterns -/

/-- CC1 as given; CC2 to CC4 the order of an integer and zero (00_scope.md R15). -/
def orderCC (cc1 : Bool) (v : Int) : CC := ⟨cc1, decide (0 < v), decide (v < 0), decide (v = 0)⟩

/-- The state after an instruction of `len` halfwords that changes the condition code alone. -/
def State.after (s : State) (len : BitVec 18) (c : CC) : State :=
  { s with psw := { s.psw with pc := s.psw.pc + len, cc := c } }

/-- The width a result of a format has in registers. -/
def Format.bits : Format → Nat
  | .byte => 32
  | .half => 32
  | .word => 32
  | .double => 64

/-- The signed value of R[r], or of the pair for a doubleword. -/
def State.registerInt (s : State) (r : Reg) : Format → Int
  | .byte => (s.reg r).toInt
  | .half => (s.reg r).toInt
  | .word => (s.reg r).toInt
  | .double => (s.pair r).toInt

/-- The format of an operand. -/
def Datum.format : Datum → Format
  | .byte _ => .byte
  | .half _ => .half
  | .word _ => .word
  | .double _ => .double

/-- The value of an operand: a byte is never negative, the others are signed (41_fixed_point.md R190). -/
def Datum.int : Datum → Int
  | .byte b => b.toNat
  | .half h => h.toInt
  | .word w => w.toInt
  | .double d => d.toInt

/-- An integer goes to R[r], or to the pair for a doubleword, modulo the width. -/
def State.writeInt (s : State) (r : Reg) (v : Int) : Format → State
  | .byte => s.setReg r (BitVec.ofInt 32 v)
  | .half => s.setReg r (BitVec.ofInt 32 v)
  | .word => s.setReg r (BitVec.ofInt 32 v)
  | .double => s.setPair r (BitVec.ofInt 64 v)

/-- The integer is no two's complement number of the width. -/
def outOfRange (n : Nat) (v : Int) : Bool := decide (v < -2 ^ (n - 1)) || decide (2 ^ (n - 1) ≤ v)

/-- The state after an instruction of `len` halfwords that delivers the integer `v`: the wrapped value in the register
or pair, CC2 to CC4 its order, CC1 and the request on level 29H exactly when `v` does not fit (41 R191, 60 R440). -/
def State.delivered (s : State) (len : BitVec 18) (r : Reg) (v : Int) (k : Format) : State :=
  ((s.after len (orderCC (outOfRange k.bits v) (v.bmod (2 ^ k.bits)))).writeInt r v k).requestArithmetic
    (outOfRange k.bits v)

/-- The state after an instruction of `len` halfwords that puts the pattern `v` into R[r], CC1 zero. -/
def State.placed (s : State) (len : BitVec 18) (r : Reg) (v : Word) : State :=
  (s.after len (orderCC false v.toInt)).setReg r v

/-- The state after an instruction of `len` halfwords that puts the pattern `v` into the pair, CC1 zero. -/
def State.placedPair (s : State) (len : BitVec 18) (r : Reg) (v : DWord) : State :=
  (s.after len (orderCC false v.toInt)).setPair r v

/-- The instruction that begins in `s` with the reference `m` reads the operand `d` without a fault, and `v` is the state
after the cycles of the effective address and of the operand (20_memory.md R66, R74, R77). -/
def Reads (s : State) (m : MemRef) (d : Datum) (v : State) : Prop :=
  ∃ e u, effAddr s m = .ok (e, u) ∧ u.present e.word = true ∧ u.seenBad e = false ∧ d = u.seen e ∧ v = u.afterRead e

/-- The word may be written (20 R74 to R76). -/
def WriteOpen (s : State) (w : WordAddr) : Prop :=
  s.present w = true ∧ s.portReadOnly w = false ∧ (s.notPrivileged && s.pageLocked w) = false

/-- The instruction that begins in `s` with the reference `m` has the effective address `e`, formed in `u`, and may
write there. -/
def Writable (s : State) (m : MemRef) (e : Ea) (u : State) : Prop := effAddr s m = .ok (e, u) ∧ WriteOpen u e.word

/-- The byte address belongs to the operand at an effective address (20 R63). -/
def covers (e : Ea) (a : Addr) : Bool :=
  match e.format with
  | .byte => a == e.op
  | .half => a.extractLsb' 1 18 == e.op.extractLsb' 1 18
  | .word => a.wordAddr == e.word
  | .double => evenWord a.wordAddr == evenWord e.word

/-- The operand is made of full words, this one among them. -/
def coversWord (e : Ea) (w : WordAddr) : Bool :=
  match e.format with
  | .byte => false
  | .half => false
  | .word => w == e.word
  | .double => evenWord w == evenWord e.word

/-- `t` is `s` with the operand `d` stored at `e`: the operand reads back, every byte outside it reads as before, full
words get good parity and no other word changes its parity, everything else is unchanged. -/
def Stored (s t : State) (e : Ea) (d : Datum) : Prop :=
  t = { s with mem := t.mem, parityBad := t.parityBad } ∧ t.datum e = d ∧
    (∀ a, covers e a = false → t.byteAt a = s.byteAt a) ∧
    (∀ w, t.parityBadAt w = (s.parityBadAt w && !coversWord e w))

/-- The effective address of one byte, whatever F is (44_bit_manipulation.md R280). -/
def Ea.asByte (e : Ea) : Ea := { e with f := true }

/-- The effective address of a whole word, whatever F and C are (44 R286, 40_load_store.md R180). -/
def Ea.asWord (e : Ea) : Ea := { e with f := false, c := 0#2 }

/-- The effective address of a word. -/
def wordEa (w : WordAddr) : Ea := { f := false, c := 0#2, raw := w ++ 0#2, last := none }

/-- `t` is `s` after the memory cycles that store the operand `d` at `e`: what the bus does comes before each cycle; a
doubleword takes two, its low word first (20_memory.md R73). -/
def Written (s t : State) (e : Ea) (d : Datum) : Prop :=
  match d with
  | .double v => ∃ w, Stored s.tick w (wordEa (oddWord e.word)) (.word (v.extractLsb' 0 32)) ∧
      Stored w.tick t (wordEa (evenWord e.word)) (.word (v.extractLsb' 32 32))
  | d => Stored s.tick t e d

/-- `t` is `s` after the memory cycles that store R[n], for each n of a list in turn, at the word that belongs to it in a
file transfer from R[r] at word `w` (40_load_store.md R181). -/
def StoredFile (w : WordAddr) (r : Reg) : List Reg → State → State → Prop
  | [], s, t => t = s
  | n :: ns, s, t => ∃ u, Stored s.tick u (wordEa (fileWord w r n)) (.word (s.reg n)) ∧ StoredFile w r ns u t

/-- The state after `n` memory cycles that only read. -/
def State.ticks (s : State) : Nat → State
  | 0 => s
  | n + 1 => (s.ticks n).tick

/-- Entry to level `n` can be made: the dedicated word reads with good parity, L is present and writable
(60_exceptions.md R457 (d)). -/
def EntryReady (s : State) (n : Level) (trapForm : Bool) : Prop :=
  let d := (dedicatedAddr n trapForm).wordAddr
  let l := saveLocation (s.tick.wordAt d)
  s.present d = true ∧ s.tick.parityBadAt d = false ∧ s.present l = true ∧ s.portReadOnly l = false

/-- What entry to level `n` leaves (60 R447): after the cycle that reads the dedicated word and the one that stores, the
PSWR at L, every other byte of memory and everything else as before but the request and active latch of `n`, PSWR bit
0, the program count L + 1, the run state and the shield. -/
def Entered (s t : State) (n : Level) (trapForm : Bool) : Prop :=
  let l := saveLocation (s.tick.wordAt (dedicatedAddr n trapForm).wordAddr)
  let v := s.tick.tick
  t.wordAt l = s.psw.word ∧ (∀ a : Addr, a.wordAddr ≠ l → t.byteAt a = v.byteAt a) ∧
    (∀ w, t.parityBadAt w = (v.parityBadAt w && w != l)) ∧
    (∀ m, hasLevel t.request m = (hasLevel v.request m && m != n)) ∧
    (∀ m, hasLevel t.active m = (hasLevel s.active m || m == n)) ∧
    t = { v with
      mem := t.mem
      parityBad := t.parityBad
      request := t.request
      active := t.active
      psw := { s.psw with priv := true, pc := (l + 1#17) ++ 0#1 }
      run := .run
      shield := true
      hung := false }

/-- The trap can be taken: its level is enabled and no level of the same or a higher priority is active (60 R432). -/
def TrapOpen (s : State) (t : Trap) : Prop :=
  hasLevel s.enabled t.level = true ∧ ∀ m, hasLevel s.active m = true → s.prio t.level < s.prio m

/-- Nothing stands before the instruction: the machine runs, no event arrives before the service check, no level is
serviceable; `u` is the state that fetches, with what happens on the bus during the step still to come. -/
def Undisturbed (s u : State) : Prop :=
  s.run = .run ∧ (∀ n, s.serviceable n = false) ∧
    ((s.inputs = [] ∧ (∀ k : Fin 16, s.channels[k].transfer = none) ∧ u = { s with within := [] }) ∨
      ∃ a rest, s.inputs = a :: rest ∧ a.before = [] ∧ u = { s with inputs := rest, within := a.within })

/-- The keyswitch position is adopted at this fetch: it was operated, option 8610 is there and the page of the
instruction is not protected (60_exceptions.md R461). -/
def Adopts (s : State) : Prop :=
  s.keyswitchPending = true ∧ s.cfg.optRtm = true ∧ s.pageLocked s.pcWord = false

/-- The state that executes after the fetch in `v`: shield and unfinished mark are clear, and an adopted keyswitch
position has set PSWR bit 0 and SEMI (60 R455, R461, R462). -/
def Executes (v w : State) : Prop :=
  (¬ Adopts v → w = { v with shield := false, hung := false }) ∧
    (Adopts v → w = { v with
      shield := false
      hung := false
      keyswitchPending := false
      semi := decide (v.keyswitch = .semiPrivileged)
      psw := { v.psw with priv := decide (v.keyswitch = .privileged) } })

/-- The loads of one operand that keep what they load on bad parity (60 R433). -/
def plainLoads (r : Reg) (m : MemRef) : List Instr := [.lb r m, .lh r m, .lw r m, .ld r m]

/-- The other instructions that read one operand of any format and write none. -/
def operandReaders (r : Reg) (m : MemRef) : List Instr :=
  [.lmb r m, .lmh r m, .lmw r m, .lmd r m, .lnb r m, .lnh r m, .lnw r m, .lnd r m, .admb r m, .admh r m, .admw r m,
    .admd r m, .sumb r m, .sumh r m, .sumw r m, .sumd r m, .anmb r m, .anmh r m, .anmw r m, .anmd r m, .ormb r m,
    .ormh r m, .ormw r m, .ormd r m, .eomb r m, .eomh r m, .eomw r m, .eomd r m, .camb r m, .camh r m, .camw r m,
    .camd r m, .cmmb r m, .cmmh r m, .cmmw r m, .cmmd r m]

/-- The multiply and divide instructions with an operand in memory. -/
def multiplyDivides (r : Reg) (m : MemRef) : List Instr :=
  [.mpmb r m, .mpmh r m, .mpmw r m, .dvmb r m, .dvmh r m, .dvmw r m]

/-- The floating-point instructions. -/
def floats (r : Reg) (m : MemRef) : List Instr :=
  [.adfw r m, .adfd r m, .sufw r m, .sufd r m, .mpfw r m, .mpfd r m, .dvfw r m, .dvfd r m]

/-- The instructions that store an operand and read none. -/
def operandWriters (r : Reg) (m : MemRef) : List Instr :=
  [.stb r m, .sth r m, .stw r m, .std r m, .stmb r m, .stmh r m, .stmw r m, .stmd r m, .zmb m, .zmh m, .zmw m, .zmd m,
    .stf r m]

/-- The zero of each format. -/
def zeroOf : Format → Datum
  | .byte => .byte 0#8
  | .half => .half 0#16
  | .word => .word 0#32
  | .double => .double 0#64

/-- The add register to memory instructions: they read an operand and store it. -/
def memoryAdders (r : Reg) (m : MemRef) : List Instr := [.armb r m, .armh r m, .armw r m, .armd r m]

/-- The bit instructions that read a word of memory and store it. -/
def bitUpdaters (n : BitVec 3) (m : MemRef) : List Instr := [.sbm n m, .zbm n m, .abm n m]

/-- The other instructions that always form an effective address, whatever the condition code, the registers and the
state of the machine. -/
def addressUsers (r : Reg) (n : BitVec 3) (m : MemRef) : List Instr :=
  [.tbm n m, .exm m, .lea r m, .lf r m, .bu m, .bl m]

/-- A word floating-point instruction has ended with a result: a pattern the rules fix, or one that is open together
with a certain or an open exception (42_floating_point.md R232 to R242). -/
def FloatWordDone (s t : State) (r : Reg) : FloatResult 32 → Prop
  | .exact v => t = s.placed 2#18 r v
  | .exception => ∃ v : Word,
      t = ((s.after 2#18 (orderCC true v.toInt)).setReg r v).drawn.requestLevel 0x29#7
  | .anyValue => ∃ (v : Word) (x : Bool),
      t = ((s.after 2#18 (orderCC x v.toInt)).setReg r v).drawn.requestArithmetic x

/-- A doubleword floating-point instruction has ended with a result. -/
def FloatDoubleDone (s t : State) (r : Reg) : FloatResult 64 → Prop
  | .exact v => t = s.placedPair 2#18 r v
  | .exception => ∃ v : DWord,
      t = ((s.after 2#18 (orderCC true v.toInt)).setPair r v).drawn.requestLevel 0x29#7
  | .anyValue => ∃ (v : DWord) (x : Bool),
      t = ((s.after 2#18 (orderCC x v.toInt)).setPair r v).drawn.requestArithmetic x

/-- A normalized operand other than zero (42 R231). -/
def normalizedFloat {n : Nat} (v : BitVec n) : Prop := regular v = true ∧ fractionOf v ≠ 0

/-- The value of a floating-point pattern (42 R231). -/
def floatValue {n : Nat} (v : BitVec n) : ℚ :=
  (signedFraction v : ℚ) / 2 ^ fractionBits n * (16 : ℚ) ^ ((exponentOf v : ℤ) - 64)

/-- The condition of the conditional branches, table by table (45_compare_branch.md R315 to R318). -/
def branchTaken (c : CC) (mask : Word) : Instr → Bool
  | .bu _ => true
  | .bct d _ => [true, c.cc1, c.cc2, c.cc3, c.cc4, c.cc2 || c.cc4, c.cc3 || c.cc4,
      c.cc1 || c.cc2 || c.cc3 || c.cc4].getD d.toNat false
  | .bcf d _ => [false, !c.cc1, !c.cc2, !c.cc3, !c.cc4, !c.cc2 && !c.cc4, !c.cc3 && !c.cc4,
      !c.cc1 && !c.cc2 && !c.cc3 && !c.cc4].getD d.toNat false
  | .bft _ => mask.getLsbD (15 - (8 * c.cc1.toNat + 4 * c.cc2.toNat + 2 * c.cc3.toNat + c.cc4.toNat))
  | _ => false

/-- The PSWR of a branch that transfers to `e`: the program count, and with an indirect word bits 1 to 12 (45 R314). -/
def branchPsw (p : Psw) (e : Ea) : Psw :=
  match e.last with
  | none => { p with pc := e.raw.extractLsb' 1 18 }
  | some w =>
    { p with
      cc := ⟨bitAt w 1, bitAt w 2, bitAt w 3, bitAt w 4⟩
      mid := w.extractLsb' 19 8
      pc := e.raw.extractLsb' 1 18 }

/-- The increment of a branch after incrementing (45 R320 to R323). -/
def incrementOf : Instr → Word
  | .bib _ _ => 1#32
  | .bih _ _ => 2#32
  | .biw _ _ => 4#32
  | .bid _ _ => 8#32
  | _ => 0#32

/-- The execute instructions (48_control.md R398). -/
def isExecute : Instr → Bool
  | .exr _ => true
  | .exrr _ => true
  | .exm _ => true
  | _ => false

/-- A condition code after a bit instruction: the bit and the old CC1 to CC3 (44_bit_manipulation.md R281). -/
def bitIn (c : CC) (b : Bool) : CC := ⟨b, c.cc1, c.cc2, c.cc3⟩

/-- A level whose servicing conditions hold (60_exceptions.md R454): present, no transfer interrupt, requested, enabled
unless it is 00H or 01H, and no active level has the same or a higher priority. -/
def Candidate (s : State) (n : Level) : Prop :=
  hasLevel s.cfg.levelsPresent n = true ∧ (n.toNat < 0x02 ∨ 0x11 < n.toNat) ∧ hasLevel s.request n = true ∧
    (hasLevel s.enabled n = true ∨ n.toNat ≤ 0x01) ∧ ∀ m, hasLevel s.active m = true → s.prio n < s.prio m

/-- `q` and `rem` are the quotient, truncated toward zero, and the remainder, with the dividend's sign, of `n` by `v`,
and the quotient is a 32-bit number (41_fixed_point.md R216). -/
def Divides (n v q rem : Int) : Prop :=
  n = q * v + rem ∧ rem.natAbs < v.natAbs ∧ 0 ≤ rem * n ∧ outOfRange 32 q = false

/-- No 32-bit quotient exists: the divisor is zero or the truncated quotient is too large (41 R216). -/
def NoQuotient (n v : Int) : Prop := v = 0 ∨ outOfRange 32 (n.tdiv v) = true

/-- The state after a divide of `len` halfwords with a quotient: the remainder in the even register, the quotient in the
odd one and in the condition code (41 R216). -/
def State.divided (s : State) (len : BitVec 18) (r : Reg) (q rem : Int) : State :=
  (s.after len (orderCC false q)).setPair r (BitVec.ofInt 32 rem ++ BitVec.ofInt 32 q)

/-- The state after a divide of `len` halfwords without one, the pair left with `p`. -/
def State.undivided (s : State) (len : BitVec 18) (r : Reg) (p : DWord) : State :=
  ((s.after len (orderCC true (p.extractLsb' 0 32).toInt)).setPair r p).drawn.requestLevel 0x29#7

/-- The instruction register that an execute instruction fills, as bytes, and the state after its memory cycles
(48_control.md R390 to R392). -/
def SubjectOf (s : State) (x : Instr) (bytes : List Byte) (v : State) : Prop :=
  (∃ r, x = .exr r ∧ bytes = wordBytes (s.reg r) ∧ v = s) ∨
  (∃ r, x = .exrr r ∧ bytes = halfBytes ((s.reg r).setWidth 16) ∧ v = s) ∨
  (∃ m e u, x = .exm m ∧ effAddr s m = .ok (e, u) ∧ u.present e.word = true ∧ v = u.tick ∧ v.parityBadAt e.word = false ∧
    bytes = if e.raw.getLsbD 1 then halfBytes ((v.wordAt e.word).setWidth 16) else wordBytes (v.wordAt e.word))

/-- Half a unit of the last place of a floating-point pattern's fraction (42_floating_point.md R232). -/
def halfUnit {n : Nat} (v : BitVec n) : ℚ := (16 : ℚ) ^ ((exponentOf v : ℤ) - 64) / 2 ^ (fractionBits n + 1)

/-- The magnitude of a value that a floating-point pattern can hold after rounding (words, half up) or truncation
(doublewords): zero, or an exponent of the rounded result in 0 to 127 (42_floating_point.md R231, R232, 92 D26). -/
def floatFits (n : Nat) (q : ℚ) : Prop :=
  let slack : ℚ := if n = 32 then 1 / 2 ^ 25 else 0
  q = 0 ∨ ((1 - slack) / 16 ^ 65 ≤ |q| ∧ |q| < 16 ^ 63 * (1 - slack))

/-- A pattern of zero fraction, which the model takes as zero whatever its exponent (42 R231, R234, 93 U10, log 11). -/
def zeroFloat {n : Nat} (v : BitVec n) : Prop := regular v = true ∧ fractionOf v = 0

/-- A word result is the true value `q` rounded: delivered, normalized or zero and at most half a unit of the last place
off, exactly when a pattern can hold it, and the exception otherwise (42 R232, 92 D26; log 11). -/
def RoundsTo (x : FloatResult 32) (q : ℚ) : Prop :=
  (floatFits 32 q → ∃ v, x = .exact v ∧ regular v = true ∧ |floatValue v - q| ≤ halfUnit v) ∧
    (¬ floatFits 32 q → x = .exception)

/-- A doubleword result is the true value `q` truncated toward zero (42 R232, 92 D26; log 11). -/
def TruncatesTo (x : FloatResult 64) (q : ℚ) : Prop :=
  (floatFits 64 q →
      ∃ v, x = .exact v ∧ regular v = true ∧ |floatValue v| ≤ |q| ∧ |floatValue v - q| < 2 * halfUnit v) ∧
    (¬ floatFits 64 q → x = .exception)

/-- What a Transfer Control Word points to: a byte, a halfword or a word; code 010 counts as a word
(49_interrupt_io.md R426, 93 U26). -/
def controlEa (w : Word) : Ea :=
  { f := bitAt w 12
    c := if !bitAt w 12 && w.extractLsb' 0 2 == 2#2 then 0#2 else w.extractLsb' 0 2
    raw := w.setWidth 19
    last := none }

/-- The bytes of a unit of transfer (49 R427). -/
def unitBytes : Format → Nat
  | .byte => 1
  | .half => 2
  | .word => 4
  | .double => 4

/-- The count of a Transfer Control Word does not end with this transfer (49 R427). -/
def blockGoesOn (w : Word) : Bool := decide (w.toNat / 2 ^ 20 ≠ 1)

/-- A Transfer Control Word after a transfer: the count one lower, the address one unit higher (49 R427). -/
def advancedControl (w : Word) : Word :=
  BitVec.ofNat 12 (w.toNat / 2 ^ 20 + 4095) ++ w.extractLsb' 19 1 ++
    BitVec.ofNat 19 (w.toNat + unitBytes (controlEa w).format)

/-- The low part of a channel's data register that a unit takes (49 R425). -/
def unitOf (v : Word) : Format → Datum
  | .byte => .byte (v.setWidth 8)
  | .half => .half (v.setWidth 16)
  | .word => .word v
  | .double => .word v

/-- A unit right-justified over zeros (49 R425). -/
def Datum.rightJustified : Datum → Word
  | .byte b => b.setWidth 32
  | .half h => h.setWidth 32
  | .word w => w
  | .double d => d.setWidth 32

/-- The word whose only one is at bit position 8y + n of the manual's numbering (44_bit_manipulation.md R280). -/
def oneBit (n : BitVec 3) (y : BitVec 2) : Word := 0x80000000#32 >>> (8 * y.toNat + n.toNat)

end Sys2Proof.Machine
end

