-- ==== Sys2Proof/Certificates/Slice0/Obligations.lean ====
section
/-!
DEFINITION. The statements for the provers, each with the rules of spec/ it formalises or rests on.
-/

open Sys2Proof Sys2Proof.Machine

/-- Decoding an encoded well-formed instruction gives it back (R101, R103, R120). For every well-formed instruction,
with every operand at every value its encoding admits, decode of encode is the instruction. -/
def Obligations.DecodeEncodeRoundTrip : Prop :=
  ∀ i : Instr, i.wellFormed = true → decode (encode i) = .ok i

/-- Every step keeps the invariant (R6, R42, R43, R453, R460). For every state whose memory and parity list are
canonical, whose levels 02H to 11H have no enabled or active latch, whose levels 00H and 01H have no enabled
latch, whose SEMI is clear without OPT_RTM and whose installation is legal: if step answers a next state, it has
these properties too, whatever arrives from outside and whatever happens on the bus. -/
def Obligations.InvariantKeptByStep : Prop :=
  ∀ s t : State, s.Inv = true → step s = .next t → t.Inv = true

/-- The invariant holds after reset (R57, R453). State.reset has the invariant. -/
def Obligations.InvariantAtReset : Prop :=
  State.reset.Inv = true

/-- A step runs the decoded instruction (R16, R454, R461, R462). With nothing before the instruction (no event before
it, no transfer to answer, no serviceable level), a present word at the program count that is read with good
parity and bytes there that decode to i, step is exec of i in the state after the cycle that fetches, with the
shield and the unfinished mark cleared; and if the keyswitch was operated, option 8610 is there and the page is
not protected, the keyswitch position is adopted first: PSWR bit 0 is one for "privileged" alone, SEMI set for
"privileged and semi-privileged" alone. (Nothing is serviced inside an unfinished instruction: log 20, the model's
choice.) -/
def Obligations.StepRunsDecoded : Prop :=
  ∀ (s u w : State) (i : Instr), Undisturbed s u → u.present u.pcWord = true → u.tick.parityBadAt u.pcWord = false →
    decode (instructionBytes u.tick) = .ok i → Executes u.tick w → step s = exec i w

/-- Words written out from the encodings decode to their instructions (R144, R196, R324, R391, R417). LB, ADR, BRI,
EXRR and EI written out bit by bit decode to the instructions they stand for. (The EXRR word rests on bit 30 as
the selector, which R391 does not fix and which is PRESUMED: log 24, 93 G1.) -/
def Obligations.DecodeKnownWords : Prop :=
  decode [0xAC#8, 0x88#8, 0x11#8, 0x01#8] = .ok (.lb 1#3 ⟨0#2, false, true, 0x01101#19⟩) ∧
    decode [0x3B#8, 0x70#8] = .ok (.adr 6#3 7#3) ∧
    decode [0xF9#8, 0x10#8, 0x81#8, 0x3C#8] = .ok (.bri ⟨0#2, true, false, 0x0813C#19⟩) ∧
    decode [0xC8#8, 0x87#8, 0x00#8, 0x02#8] = .ok (.exrr 1#3) ∧
    decode [0xFD#8, 0x48#8, 0x00#8, 0x00#8] = .ok (.ei 0x29#7)

/-- What reset leaves where the spec fixes it (R57, R491, R495). After power-on PSWR bit 0 is 1, SEMI is false,
KEYSWITCH_PENDING true, the run state RUN, the shield clear, no level enabled or active, and level 00H alone
requested. (Registers, protect registers and the other unspecified state are the model's choice, logs 1 to 6, and
not stated here.) -/
def Obligations.ResetState : Prop :=
  State.reset.psw.priv = true ∧ State.reset.semi = false ∧ State.reset.keyswitchPending = true ∧
    State.reset.run = .run ∧ State.reset.shield = false ∧
    ∀ n, hasLevel State.reset.enabled n = false ∧ hasLevel State.reset.active n = false ∧
      hasLevel State.reset.request n = (n == 0#7)

/-- The service check enters the candidate of highest priority and otherwise does nothing (R452, R454, R455, R504).
The serviceable levels are exactly the candidates: present, no transfer interrupt, requested, enabled unless 00H
or 01H, which always are (R452, 92 D23), and no active level of the same or a higher priority. In HALT, without
power, under the shield, inside an unfinished instruction or without a candidate the service check leaves the
state as it is; otherwise the candidate of least priority value, when its entry can be made, is entered in its
interrupt form. (That nothing is entered in its interrupt form inside an unfinished instruction is the model's
choice: log 20, resting on R504.) -/
def Obligations.ServiceCheckRule : Prop :=
  ∀ s : State, (∀ n, s.serviceable n = true ↔ Candidate s n) ∧
    (s.run = .halt ∨ s.run = .off ∨ s.shield = true ∨ s.hung = true ∨ (∀ n, ¬ Candidate s n) →
      serviceCheck s = .ok s) ∧
    ∀ n, s.run ≠ .halt → s.run ≠ .off → s.shield = false → s.hung = false → Candidate s n →
      (∀ m, Candidate s m → m ≠ n → s.prio n < s.prio m) → EntryReady s n false →
      ∃ t, serviceCheck s = .ok t ∧ Entered s t n false

/-- The entry sequence (R443, R444, R447, R457). When the dedicated word can be read with good parity and the save
location L it names is present and writable, entry to level n stores all 32 bits of the PSWR at L, clears
request[n], sets active[n] and PSWR bit 0, puts L + 1 into the program count, RUN into the run state and sets the
shield; every other byte of memory, every register, every other latch and all other state are as after the two
memory cycles. Resting on decisions: CC and bits 5 to 12 are kept (92 D10), L is bits 13 to 29 of the dedicated
word (92 D11), the word at L gets good parity (92 D29, log 25); the model's choice: the unfinished mark is cleared
(log 20); log 21 says what an entry that cannot be made does. -/
def Obligations.EntrySequence : Prop :=
  ∀ (s : State) (n : Level) (trapForm : Bool), EntryReady s n trapForm →
    ∃ t, enter s n trapForm = .ok t ∧ Entered s t n trapForm

/-- HALT and no power stand still, WAIT waits for an interrupt (R49, R393, R394, R513). With no event arriving, a step
in HALT or without power leaves the state unchanged, a pending transfer interrupt and a requested level included;
in WAIT, with no transfer pending and no serviceable level, too (what the model lists for the bus during the step
is used up). And in HALT and without power nothing that comes on the bus changes memory or its parity. -/
def Obligations.HaltAndWaitIdle : Prop :=
  ∀ s : State,
    (s.inputs = [] → s.run = .halt ∨ s.run = .off → step s = .next { s with within := [] }) ∧
    (s.inputs = [] → s.run = .wait → (∀ k : Fin 16, s.channels[k].transfer = none) →
      (∀ n, s.serviceable n = false) → step s = .next { s with within := [] }) ∧
    (s.run = .halt ∨ s.run = .off → ∀ b, ∃ u, applyEvent s (.bus b) = u ∧ u = { s with channels := u.channels })

/-- Taking a trap (R432, R446, R447). A trap whose level is enabled, with no level of the same or a higher priority
active, is entered in its trap form: the PSWR stored at L has the program count of the aborted instruction, and
nothing but memory at L, the latches of the level, bit 0, the program count, the run state and the shield changes. -/
def Obligations.TrapTaken : Prop :=
  ∀ (s : State) (x : Trap) (len : BitVec 18), TrapOpen s x → EntryReady s x.level true →
    ∃ t, raise x len s = .next t ∧ Entered s t x.level true

/-- A trap that cannot be taken is a No Operation (R432, R434). If the trap level is disabled or a level of the same
or a higher priority is active, the program count moves past the instruction, the parity indicator lights for a
parity error, and nothing else changes: no request is remembered. -/
def Obligations.TrapNotTaken : Prop :=
  ∀ (s : State) (x : Trap) (len : BitVec 18), ¬ TrapOpen s x →
    raise x len s = .next { s with
      psw := { s.psw with pc := s.psw.pc + len }
      errorIndicator := s.errorIndicator || decide (x = .memoryParity) }

/-- An undefined operation code raises the undefined instruction trap (R432, R436, R461, R507). With nothing before
it, a present word read with good parity whose bytes decode to no instruction raises the undefined instruction
trap, after the adoption of a keyswitch position that is due. Its length is one halfword in a right halfword, a
word form that cannot begin there included; in a left halfword it is two halfwords exactly when bit 0 is 1. (That
a word form in a right halfword has the length of one halfword is the model's choice, log 26, DEDUCED from 92 D3,
93 U9 and V206: R432 and R507 by themselves give it two halfwords when the trap is not taken.) -/
def Obligations.UndecodableTraps : Prop :=
  ∀ (s u w : State) (x : DecodeReject), Undisturbed s u → u.present u.pcWord = true →
    u.tick.parityBadAt u.pcWord = false → decode (instructionBytes u.tick) = .error x → Executes u.tick w →
    step s = raise .undefinedInstruction
      (if u.psw.pc.getLsbD 0 then 1#18 else if bitAt (u.tick.wordAt u.pcWord) 0 then 2#18 else 1#18) w

/-- A fetch from an absent word or one of bad parity traps (R432, R434, R435). With nothing before it, an absent word
at the program count raises the non-present memory trap and a present word of bad parity the memory parity trap,
each with the distance to the next word as its length; no keyswitch position is adopted. (For bad parity both are
the model's choice, log 39, DEDUCED from 92 D15 and R461: R432 by itself takes the length from the bits as read.) -/
def Obligations.FetchFaults : Prop :=
  ∀ s u : State, Undisturbed s u →
    let len : BitVec 18 := if u.psw.pc.getLsbD 0 then 1#18 else 2#18
    (u.present u.pcWord = false → step s = raise .nonPresentMemory len { u with shield := false, hung := false }) ∧
    (u.present u.pcWord = true → u.tick.parityBadAt u.pcWord = true →
      step s = raise .memoryParity len { u.tick with shield := false, hung := false })

/-- LB, LH, LW, LD: result, condition code and frame (R73, R142, R143, R144, R145, R146). With a readable operand each
of the four completes: the operand of the effective format, zero- or sign-extended, is in R[r] or the pair, CC1 is
0, CC2 to CC4 are its order, the program count has moved by two halfwords. Everything else, memory included, is as
before but for what the bus did between the memory cycles (memory, parity, channels and service requests alone),
and as before without exception when nothing happened on the bus. -/
def Obligations.LoadResult : Prop :=
  ∀ (s v : State) (r : Reg) (m : MemRef) (d : Datum), Reads s m d v →
    BusOnly s v ∧ (s.within = [] → v = s) ∧
    ∀ i ∈ plainLoads r m, exec i s = .next (v.delivered 2#18 r d.int d.format)

/-- LMB, LMH, LMW, LMD: result, condition code and frame (R147, R148, R149, R150). With a readable operand the
extended operand ANDed with the old R4 (each word of a doubleword alike) is delivered. (The state v that the
result is delivered in is s after the memory cycles of the address and the operand: s itself but for what the bus
did between them, see LoadResult.) -/
def Obligations.LoadMaskedResult : Prop :=
  ∀ (s v : State) (r : Reg) (m : MemRef) (d : Datum), Reads s m d v →
    ∀ i ∈ [Instr.lmb r m, .lmh r m, .lmw r m, .lmd r m],
      exec i s = .next (match d with
        | .byte b => v.placed 2#18 r (BitVec.ofNat 32 b.toNat &&& s.reg 4#3)
        | .half h => v.placed 2#18 r (BitVec.ofInt 32 h.toInt &&& s.reg 4#3)
        | .word w => v.placed 2#18 r (w &&& s.reg 4#3)
        | .double x => v.placedPair 2#18 r ((x.extractLsb' 32 32 &&& s.reg 4#3) ++
            (x.extractLsb' 0 32 &&& s.reg 4#3)))

/-- LNB, LNH, LNW, LND: result, condition code, exception and frame (R151, R152, R153, R154). With a readable operand
the negated operand is delivered; CC1 and the request on level 29H are made exactly when the negation does not
fit. (The state v that the result is delivered in is s after the memory cycles of the address and the operand: s
itself but for what the bus did between them, see LoadResult.) -/
def Obligations.LoadNegativeResult : Prop :=
  ∀ (s v : State) (r : Reg) (m : MemRef) (d : Datum), Reads s m d v →
    ∀ i ∈ [Instr.lnb r m, .lnh r m, .lnw r m, .lnd r m],
      exec i s = .next (v.delivered 2#18 r (-d.int) d.format)

/-- Bad parity of an operand, and a trap on an indirect address word (R66, R77, R140, R315, R319, R320, R324, R433,
R434). With a present operand of bad parity LB, LH, LW and LD raise the memory parity trap in the state after the
cycles that read, except that the general registers and the condition code are those of the completed load; every
other instruction that reads an operand (the masked and negative loads, arithmetic, logic, compare, multiply and
divide, floating point, the read-modify-write forms where they may write, TBM, EXM) raises it with nothing of its
own changed. A trap on an indirect address word is raised by every instruction that forms an effective address,
with nothing of its own changed. (LF is in FileTransfers.) -/
def Obligations.LoadOperandParity : Prop :=
  ∀ (s : State) (r : Reg) (n : BitVec 3) (m : MemRef),
    (∀ (e : Ea) (u : State), effAddr s m = .ok (e, u) → u.present e.word = true →
      (u.seenBad e = true →
        (∀ i ∈ plainLoads r m,
          let t := (u.afterRead e).delivered 2#18 r (u.seen e).int (u.seen e).format
          exec i s = raise .memoryParity 2#18
            { u.afterRead e with regs := t.regs, psw := { s.psw with cc := t.psw.cc } }) ∧
        (∀ i ∈ operandReaders r m, exec i s = raise .memoryParity 2#18 (u.afterRead e)) ∧
        (e.format ≠ .double → ∀ i ∈ multiplyDivides r m, exec i s = raise .memoryParity 2#18 (u.afterRead e)) ∧
        (WriteOpen u e.word → ∀ i ∈ memoryAdders r m, exec i s = raise .memoryParity 2#18 (u.afterRead e))) ∧
      (u.tick.parityBadAt e.word = true →
        (∀ i ∈ [Instr.tbm n m, .exm m], exec i s = raise .memoryParity 2#18 u.tick) ∧
        (WriteOpen u e.word → ∀ i ∈ bitUpdaters n m, exec i s = raise .memoryParity 2#18 u.tick)) ∧
      (s.cfg.optFp = true → ∀ i ∈ floats r m,
        (e.c = 0#2 → u.tick.parityBadAt e.word = true → exec i s = raise .memoryParity 2#18 u.tick) ∧
        (e.c = 2#2 → u.tick.parityBadAt (oddWord e.word) = true → exec i s = raise .memoryParity 2#18 u.tick) ∧
        (e.c = 2#2 → u.tick.parityBadAt (oddWord e.word) = false →
          u.tick.tick.parityBadAt (evenWord e.word) = true → exec i s = raise .memoryParity 2#18 u.tick.tick))) ∧
    ∀ (x : Trap) (u : State), effAddr s m = .error (.trap x u) →
      (∀ i ∈ plainLoads r m ++ operandReaders r m ++ multiplyDivides r m ++ operandWriters r m ++ memoryAdders r m ++
        bitUpdaters n m ++ addressUsers r n m, exec i s = raise x 2#18 u) ∧
      (s.cfg.optFp = true → ∀ i ∈ floats r m, exec i s = raise x 2#18 u) ∧
      (s.unprivileged = false → exec (.bri m) s = raise x 2#18 u) ∧
      (∀ d : BitVec 3, ∀ i ∈ [Instr.bct d m, .bcf d m, .bft m], branchTaken s.psw.cc (s.reg 4#3) i = true →
        exec i s = raise x 2#18 u) ∧
      (m.x = 0#2 → ∀ i ∈ [Instr.bib r m, .bih r m, .biw r m, .bid r m], s.reg r + incrementOf i ≠ 0#32 →
        exec i s = raise x 2#18 u)

/-- LI, LCS, ZR: result, condition code and frame (R155, R179, R186). LI delivers the sign-extended operand, LCS the
control switches in bits 0 to 12 with zeros after them, ZR zero with CC4. -/
def Obligations.ImmediateAndSwitchLoads : Prop :=
  ∀ (s : State) (r : Reg) (imm : BitVec 16),
    exec (.li r imm) s = .next (s.delivered 2#18 r imm.toInt .word) ∧
    exec (.lcs r) s = .next (s.placed 1#18 r (BitVec.ofNat 32 (s.controlSwitches.toNat * 2 ^ 19))) ∧
    exec (.zr r) s = .next (s.placed 1#18 r 0#32)

/-- The effective address of one level, and LEA: result and frame (R64, R65, R66, R67, R156). Without the Indirect bit
the effective address is the address field plus bits 13 to 31 of the index register modulo 2^19, formed in no
memory cycle; with it, one cycle reads the word at its word part, and if that word has no Indirect bit its own
indexed address is the result, the format code being that of the word unless its F and C are zero, when the code
so far stays. An absent word is the non-present memory trap, one of bad parity the memory parity trap. LEA
completes whenever the effective address can be formed, over any number of levels: bits 12 to 31 of R[r] are F,
word address and C; bits 0 to 11 are open (93 U1, log 8); the condition code and all else but the count of free
values are as after the cycles that formed the address. (Which address and format code a chain of two or more
indirect words ends in is not said here.) -/
def Obligations.LoadEffectiveAddress : Prop :=
  ∀ (s : State) (r : Reg) (m : MemRef),
    let index := fun (u : State) (x : BitVec 2) => if x = 0#2 then 0#19 else (u.reg (0#1 ++ x)).setWidth 19
    let a : Addr := m.addr + index s m.x
    let w : WordAddr := a.extractLsb' 2 17
    (m.ind = false → effAddr s m = .ok (⟨m.f, a.extractLsb' 0 2, a, none⟩, s)) ∧
    (m.ind = true → 0 < s.cfg.chainLimit →
      (s.present w = false → effAddr s m = .error (.trap .nonPresentMemory s)) ∧
      (s.present w = true → s.tick.parityBadAt w = true → effAddr s m = .error (.trap .memoryParity s.tick)) ∧
      (s.present w = true → s.tick.parityBadAt w = false →
        let q := s.tick.wordAt w
        let b : Addr := q.setWidth 19 + index s (q.extractLsb' 21 2)
        let keep := !bitAt q 12 && b.extractLsb' 0 2 == 0#2
        bitAt q 11 = false →
          effAddr s m = .ok (⟨if keep then m.f else bitAt q 12,
            if keep then a.extractLsb' 0 2 else b.extractLsb' 0 2, b, some q⟩, s.tick))) ∧
    ∀ (e : Ea) (u : State), effAddr s m = .ok (e, u) → BusOnly s u ∧ (s.within = [] → u = s) ∧
      ∃ v : Word, bitAt v 12 = e.f ∧ v.extractLsb' 2 17 = e.raw.extractLsb' 2 17 ∧ v.extractLsb' 0 2 = e.c ∧
        exec (.lea r m) s = .next (((u.advance 2#18).setReg r v).drawn)

/-- LF and STF: result, parity in a later word, and frame (R180, R181). LF from R[r] at a present word reads for n
from r to 7, one cycle each, the word whose low three address bits are those of the effective address plus n - r.
With good parity R[n] has what its cycle read and nothing else changes. Bad parity of the word of R[k] raises the
memory parity trap with R[r] to R[k-1] loaded and nothing else changed (R180 with 92 D28; R433 by itself has LF
change nothing, and the model's choice between them is log 18, DEDUCED). With a writable address STF stores those
registers, one cycle each in the same order, into those words, and no other word of memory and nothing else
changes; said outright for a step without anything on the bus. -/
def Obligations.FileTransfers : Prop :=
  ∀ (s u : State) (r : Reg) (m : MemRef) (e : Ea), effAddr s m = .ok (e, u) →
    let word := fun n : Reg => fileWord e.word r n
    let at_ := fun n : Reg => u.ticks (n.toNat - r.toNat + 1)
    (u.present e.word = true →
      ((∀ n : Reg, r.toNat ≤ n.toNat → (at_ n).parityBadAt (word n) = false) →
        ∃ t, exec (.lf r m) s = .next t ∧ t = { (at_ 7#3).advance 2#18 with regs := t.regs } ∧
          ∀ n : Reg, t.reg n = if r.toNat ≤ n.toNat then (at_ n).wordAt (word n) else s.reg n) ∧
      ∀ k : Reg, r.toNat ≤ k.toNat →
        (∀ n : Reg, r.toNat ≤ n.toNat → n.toNat < k.toNat → (at_ n).parityBadAt (word n) = false) →
        (at_ k).parityBadAt (word k) = true →
        ∃ t, exec (.lf r m) s = raise .memoryParity 2#18 t ∧ t = { at_ k with regs := t.regs } ∧
          ∀ n : Reg, t.reg n =
            if r.toNat ≤ n.toNat ∧ n.toNat < k.toNat then (at_ n).wordAt (word n) else s.reg n) ∧
    (WriteOpen u e.word →
      ∃ t, exec (.stf r m) s = .next t ∧
        StoredFile e.word r ((List.range' r.toNat (8 - r.toNat)).map (BitVec.ofNat 3)) (u.advance 2#18) t ∧
        (s.within = [] → t = { s.advance 2#18 with mem := t.mem, parityBad := t.parityBad } ∧
          (∀ n : Reg, r.toNat ≤ n.toNat → t.wordAt (word n) = s.reg n) ∧
          ∀ w, (∀ n : Reg, r.toNat ≤ n.toNat → w ≠ word n) →
            t.wordAt w = s.wordAt w ∧ t.parityBadAt w = s.parityBadAt w))

/-- STB to STD and STMB to STMD: stored operand and frame (R73, R160, R161, R162, R163, R164, R165, R166, R167). With
a writable operand each of the eight completes: the low byte, low halfword, word or pair, for the masked forms
ANDed with R4, is put into memory at the operand the effective address computes, in one cycle, a doubleword in two
with the low word first; every byte outside it reads as before, the condition code and everything else is
unchanged, but for what the bus did between the cycles. Without anything on the bus the state after the address is
the state before it. -/
def Obligations.StoreResult : Prop :=
  ∀ (s u : State) (r : Reg) (m : MemRef) (e : Ea), Writable s m e u →
    BusOnly s u ∧ (s.within = [] → u = s) ∧
    (∀ i ∈ [Instr.stb r m, .sth r m, .stw r m, .std r m], ∃ t, exec i s = .next t ∧
      Written (u.advance 2#18) t e (match e.format with
        | .byte => .byte ((s.reg r).setWidth 8)
        | .half => .half ((s.reg r).setWidth 16)
        | .word => .word (s.reg r)
        | .double => .double (s.pair r))) ∧
    (∀ i ∈ [Instr.stmb r m, .stmh r m, .stmw r m, .stmd r m], ∃ t, exec i s = .next t ∧
      Written (u.advance 2#18) t e (match e.format with
        | .byte => .byte ((s.reg r &&& s.reg 4#3).setWidth 8)
        | .half => .half ((s.reg r &&& s.reg 4#3).setWidth 16)
        | .word => .word (s.reg r &&& s.reg 4#3)
        | .double => .double ((s.reg (pairEven r) &&& s.reg 4#3) ++ (s.reg (pairOdd r) &&& s.reg 4#3))))

/-- ZMB, ZMH, ZMW, ZMD: cleared operand and frame (R170, R171, R172, R173). With a writable operand each of the four
completes: the zero of the effective format is put into memory at the operand the effective address computes.
Without anything on the bus every byte of the operand reads 00, every byte outside it reads as before, full words
get good parity, and everything else is unchanged. -/
def Obligations.ZeroMemoryResult : Prop :=
  ∀ (s u : State) (m : MemRef) (e : Ea), Writable s m e u →
    ∀ i ∈ [Instr.zmb m, .zmh m, .zmw m, .zmd m], ∃ t, exec i s = .next t ∧
      Written (u.advance 2#18) t e (zeroOf e.format) ∧
      (s.within = [] → t = { s.advance 2#18 with mem := t.mem, parityBad := t.parityBad } ∧
        (∀ a, t.byteAt a = if covers e a then 0#8 else s.byteAt a) ∧
        ∀ w, t.parityBadAt w = (s.parityBadAt w && !coversWord e w))

/-- A store into a protected page or a read-only module traps (R75, R76, R78, R437). Without privilege a store into a
protected page, and in any state a store into a module of port access 01, raises the privilege violation trap with
nothing stored and nothing of the instruction done; so for every instruction that stores an operand, the
read-modify-write ones before they read. -/
def Obligations.ProtectedStoreTraps : Prop :=
  ∀ (s u : State) (r : Reg) (n : BitVec 3) (m : MemRef) (e : Ea), effAddr s m = .ok (e, u) →
    u.present e.word = true →
    (u.portReadOnly e.word = true ∨ (u.notPrivileged = true ∧ u.pageLocked e.word = true)) →
    ∀ i ∈ operandWriters r m ++ memoryAdders r m ++ bitUpdaters n m, exec i s = raise .privilegeViolation 2#18 u

/-- An operand in absent memory traps (R74, R76, R105, R435). An operand whose module is absent, or closed to port 2,
raises the non-present memory trap with nothing of the instruction done: for every instruction with a memory
operand, multiply and divide when the format is one they have, the floating-point ones with option 8620 and a word
or doubleword. -/
def Obligations.AbsentOperandTraps : Prop :=
  ∀ (s u : State) (r : Reg) (n : BitVec 3) (m : MemRef) (e : Ea), effAddr s m = .ok (e, u) →
    u.present e.word = false →
    (∀ i ∈ plainLoads r m ++ operandReaders r m ++ operandWriters r m ++ memoryAdders r m ++ bitUpdaters n m ++
      [.tbm n m, .exm m, .lf r m], exec i s = raise .nonPresentMemory 2#18 u) ∧
    (e.format ≠ .double → ∀ i ∈ multiplyDivides r m, exec i s = raise .nonPresentMemory 2#18 u) ∧
    (s.cfg.optFp = true → (e.c = 0#2 ∨ e.c = 2#2) → ∀ i ∈ floats r m, exec i s = raise .nonPresentMemory 2#18 u)

/-- ADMB to ADMD and SUMB to SUMD: result, condition code, exception and frame (R192, R193, R194, R195, R203, R204,
R205, R206, R191). With a readable operand each of the eight completes: the sum or difference of the register or
pair and the extended operand is delivered, CC1 and the request on level 29H exactly when it does not fit,
everything else unchanged. (The state v that the result is delivered in is s after the memory cycles of the
address and the operand: s itself but for what the bus did between them, see LoadResult.) -/
def Obligations.AddSubtractMemory : Prop :=
  ∀ (s v : State) (r : Reg) (m : MemRef) (d : Datum), Reads s m d v →
    (∀ i ∈ [Instr.admb r m, .admh r m, .admw r m, .admd r m],
      exec i s = .next (v.delivered 2#18 r (s.registerInt r d.format + d.int) d.format)) ∧
    (∀ i ∈ [Instr.sumb r m, .sumh r m, .sumw r m, .sumd r m],
      exec i s = .next (v.delivered 2#18 r (s.registerInt r d.format - d.int) d.format))

/-- ADR, SUR, ADI, SUI, ABR, TRN and the masked ADRM, SURM, TRNM: result, condition code, exception and frame (R196,
R197, R202, R207, R208, R209, R287, R344, R345). Each completes in every state: the exact sum, difference or
negation is delivered modulo 2^32, for the masked forms ANDed with the old R4; CC1 and the request on level 29H
are made exactly when the exact value, before masking, does not fit; everything else is unchanged. -/
def Obligations.RegisterArithmetic : Prop :=
  ∀ (s : State) (d src r : Reg) (imm : BitVec 16) (n : BitVec 3) (y : BitVec 2),
    let x := (s.reg d).toInt
    let z := (s.reg src).toInt
    exec (.adr d src) s = .next (s.delivered 1#18 d (x + z) .word) ∧
    exec (.sur d src) s = .next (s.delivered 1#18 d (x - z) .word) ∧
    exec (.trn d src) s = .next (s.delivered 1#18 d (-z) .word) ∧
    exec (.adi r imm) s = .next (s.delivered 2#18 r ((s.reg r).toInt + imm.toInt) .word) ∧
    exec (.sui r imm) s = .next (s.delivered 2#18 r ((s.reg r).toInt - imm.toInt) .word) ∧
    exec (.abr n r y) s = .next (s.delivered 1#18 r ((s.reg r).toInt + (oneBit n y).toInt) .word) ∧
    ∀ p ∈ [(Instr.adrm d src, x + z), (.surm d src, x - z), (.trnm d src, -z)],
      exec p.1 s = .next ((s.placed 1#18 d (BitVec.ofInt 32 p.2 &&& s.reg 4#3)
        |>.setCC (orderCC (outOfRange 32 p.2) (BitVec.ofInt 32 p.2 &&& s.reg 4#3).toInt)).requestArithmetic
          (outOfRange 32 p.2))

/-- ARMW and ARMD: stored sum, condition code, exception and frame (R73, R191, R200, R201). With a word or doubleword
operand that can be read and written, the add register to memory instruction completes: the sum is stored modulo
the width at the operand the effective address computes and nowhere else, the bus free to act between the cycles
that read and those that write; CC2 to CC4 are the order of the stored value, CC1 and the request on level 29H are
made exactly when the sum does not fit, no register changes. -/
def Obligations.AddToMemoryWide : Prop :=
  ∀ (s u : State) (r : Reg) (m : MemRef) (e : Ea), Writable s m e u → u.seenBad e = false →
    let v := s.registerInt r e.format + (u.seen e).int
    let ovf := outOfRange e.format.bits v
    let w := (u.afterRead e).after 2#18 (orderCC ovf (v.bmod (2 ^ e.format.bits)))
    ∀ i ∈ memoryAdders r m,
      (e.format = .word → ∃ t, Written w t e (.word (BitVec.ofInt 32 v)) ∧
        exec i s = .next (t.requestArithmetic ovf)) ∧
      (e.format = .double → ∃ t, Written w t e (.double (BitVec.ofInt 64 v)) ∧
        exec i s = .next (t.requestArithmetic ovf))

/-- ARMB and ARMH: stored sum, condition code and frame (R73, R198, R199). With a byte or halfword operand that can be
read and written, the add register to memory instruction completes: the sum of the operand and the low byte or
halfword of the register is stored there and nowhere else, CC4 tells whether it is zero, CC1 to CC3 are undefined
(log 9) and no exception is requested, no register changes. -/
def Obligations.AddToMemoryNarrow : Prop :=
  ∀ (s u : State) (r : Reg) (m : MemRef) (e : Ea), Writable s m e u → u.seenBad e = false →
    ∀ i ∈ memoryAdders r m,
      (e.format = .byte → ∃ (t : State) (c1 c2 c3 : Bool),
        let v := u.tick.byteAt e.op + (s.reg r).setWidth 8
        Written (u.tick.after 2#18 ⟨c1, c2, c3, decide (v = 0#8)⟩) t e (.byte v) ∧ exec i s = .next t.drawn) ∧
      (e.format = .half → ∃ (t : State) (c1 c2 c3 : Bool),
        let v := u.tick.halfAt e.op + (s.reg r).setWidth 16
        Written (u.tick.after 2#18 ⟨c1, c2, c3, decide (v = 0#16)⟩) t e (.half v) ∧ exec i s = .next t.drawn)

/-- MPMB, MPMH, MPMW, MPR, MPI: result, condition code and frame (R210, R211, R212, R213, R214, R215). Each completes
(the memory forms with a readable operand that is no doubleword): the exact product of the multiplier and the odd
register of the pair is in the pair, CC1 is 0, CC2 to CC4 are its order, nothing is requested and everything else
is unchanged. (The state v that the result is delivered in is s after the memory cycles of the address and the
operand: s itself but for what the bus did between them, see LoadResult.) -/
def Obligations.MultiplyResult : Prop :=
  ∀ (s v : State) (r d src : Reg) (imm : BitVec 16) (m : MemRef) (x : Datum),
    (Reads s m x v → x.format ≠ .double → ∀ i ∈ [Instr.mpmb r m, .mpmh r m, .mpmw r m],
      exec i s = .next (v.delivered 2#18 r (x.int * (s.reg (pairOdd r)).toInt) .double)) ∧
    exec (.mpr d src) s = .next (s.delivered 1#18 d ((s.reg src).toInt * (s.reg (pairOdd d)).toInt) .double) ∧
    exec (.mpi r imm) s = .next (s.delivered 2#18 r (imm.toInt * (s.reg (pairOdd r)).toInt) .double) ∧
    ∀ a b : Word, outOfRange 64 (a.toInt * b.toInt) = false

/-- DVMB, DVMH, DVMW, DVR, DVI with a quotient: result, condition code and frame (R216, R217, R218, R219, R220, R221).
Where a 32-bit quotient truncated toward zero exists, each completes (the memory forms with a readable operand
that is no doubleword): remainder in the even register, quotient in the odd one, CC1 0, CC2 to CC4 the order of
the quotient, everything else unchanged. (The state v that the result is delivered in is s after the memory cycles
of the address and the operand: s itself but for what the bus did between them, see LoadResult.) -/
def Obligations.DivideResult : Prop :=
  ∀ (s v : State) (r d src : Reg) (imm : BitVec 16) (m : MemRef) (x : Datum) (q rem : Int),
    (Reads s m x v → x.format ≠ .double → Divides (s.pair r).toInt x.int q rem →
      ∀ i ∈ [Instr.dvmb r m, .dvmh r m, .dvmw r m], exec i s = .next (v.divided 2#18 r q rem)) ∧
    (Divides (s.pair d).toInt (s.reg src).toInt q rem → exec (.dvr d src) s = .next (s.divided 1#18 d q rem)) ∧
    (Divides (s.pair r).toInt imm.toInt q rem → exec (.dvi r imm) s = .next (s.divided 2#18 r q rem))

/-- A divide without a 32-bit quotient is an arithmetic exception and goes on (R216, R440). With a zero divisor or a
truncated quotient that does not fit, each of the five completes with CC1 set and level 29H requested; the pair is
left open (log 10), CC2 to CC4 follow its odd register, everything else is unchanged. (The state v that the result
is delivered in is s after the memory cycles of the address and the operand: s itself but for what the bus did
between them, see LoadResult.) -/
def Obligations.DivideOverflow : Prop :=
  ∀ (s v : State) (r d src : Reg) (imm : BitVec 16) (m : MemRef) (x : Datum),
    (Reads s m x v → x.format ≠ .double → NoQuotient (s.pair r).toInt x.int →
      ∀ i ∈ [Instr.dvmb r m, .dvmh r m, .dvmw r m], ∃ p, exec i s = .next (v.undivided 2#18 r p)) ∧
    (NoQuotient (s.pair d).toInt (s.reg src).toInt → ∃ p, exec (.dvr d src) s = .next (s.undivided 1#18 d p)) ∧
    (NoQuotient (s.pair r).toInt imm.toInt → ∃ p, exec (.dvi r imm) s = .next (s.undivided 2#18 r p))

/-- A format code that selects no variant is a fault (R105, R213, R233). A multiply or divide whose effective format
code is that of a doubleword, and a floating-point instruction whose effective C is 01 or 11, end in the fault
noVariant (93 U6, log 22). -/
def Obligations.NoVariantFaults : Prop :=
  ∀ (s u : State) (r : Reg) (m : MemRef) (e : Ea), effAddr s m = .ok (e, u) →
    (e.format = .double → ∀ i ∈ multiplyDivides r m, exec i s = .fault .noVariant) ∧
    (s.cfg.optFp = true → (e.c = 1#2 ∨ e.c = 3#2) → ∀ i ∈ floats r m, exec i s = .fault .noVariant)

/-- ES and RND: result, condition code, exception and frame (R222, R223). ES fills R[r] with the sign of R[r + 1], RND
adds that sign bit to R[r] and reports the overflow of 7FFFFFFF; for r = 7 the register after it is not given, so
the sign is open (log 12). Everything else is unchanged. (That R is not forced even for an odd r is R222 and R223;
the table of R502 says otherwise, and the model's choice between them is log 48, DEDUCED.) -/
def Obligations.ExtendAndRound : Prop :=
  ∀ (s : State) (r : Reg),
    (r ≠ 7#3 → exec (.es r) s = .next (s.placed 1#18 r (BitVec.ofInt 32 (if (s.reg (r + 1#3)).toInt < 0 then -1 else 0)))
      ∧ exec (.rnd r) s = .next (s.delivered 1#18 r
          ((s.reg r).toInt + (if (s.reg (r + 1#3)).toInt < 0 then 1 else 0)) .word)) ∧
    (∃ sign : Bool, exec (.es 7#3) s = .next (s.placed 1#18 7#3 (BitVec.ofInt 32 (if sign then -1 else 0))).drawn) ∧
    (∃ sign : Bool, exec (.rnd 7#3) s = .next (s.delivered 1#18 7#3
      ((s.reg 7#3).toInt + (if sign then 1 else 0)) .word).drawn)

/-- The eight floating-point instructions complete (R233, R235, R236, R237, R238, R239, R240, R241, R242). With option
8620 and a readable word (effective C = 00) or doubleword (C = 10; the odd word is read first) each of the eight
completes: with an exact result it is in the register or pair with its condition code; with an exponent out of
range or a zero divisor CC1 and the request on level 29H are certain and the pattern is open; with an operand the
manual promises nothing about the pattern and the exception are open (log 11). Everything else is unchanged but
for what the bus did. Which results are exact and what they are FloatResultRounds says. -/
def Obligations.FloatCompletes : Prop :=
  ∀ (s u : State) (r : Reg) (m : MemRef) (e : Ea), s.cfg.optFp = true → effAddr s m = .ok (e, u) →
    u.present e.word = true →
    (e.c = 0#2 → u.tick.parityBadAt e.word = false →
      let x := s.reg r
      let y := u.tick.wordAt e.word
      ∀ p ∈ [(Instr.adfw r m, floatAdd x y), (.adfd r m, floatAdd x y), (.sufw r m, floatSubtract x y),
        (.sufd r m, floatSubtract x y), (.mpfw r m, floatMultiply x y), (.mpfd r m, floatMultiply x y),
        (.dvfw r m, floatDivide x y), (.dvfd r m, floatDivide x y)],
        ∃ t, exec p.1 s = .next t ∧ FloatWordDone u.tick t r p.2) ∧
    (e.c = 2#2 → u.tick.parityBadAt (oddWord e.word) = false → u.tick.tick.parityBadAt (evenWord e.word) = false →
      let x := s.pair r
      let y := u.tick.tick.wordAt (evenWord e.word) ++ u.tick.wordAt (oddWord e.word)
      ∀ p ∈ [(Instr.adfw r m, floatAdd x y), (.adfd r m, floatAdd x y), (.sufw r m, floatSubtract x y),
        (.sufd r m, floatSubtract x y), (.mpfw r m, floatMultiply x y), (.mpfd r m, floatMultiply x y),
        (.dvfw r m, floatDivide x y), (.dvfd r m, floatDivide x y)],
        ∃ t, exec p.1 s = .next t ∧ FloatDoubleDone u.tick.tick t r p.2)

/-- Encoding a floating-point number and reading it back (R230, R231). For a word and a doubleword, a sign, an
exponent field below 128 and a fraction field that fits, not both zero, are read back from the pattern that
encodes them, a negative number being the two's complement of its magnitude. -/
def Obligations.FloatEncodeRoundTrip : Prop :=
  ∀ (neg : Bool) (x f : Nat), x < 128 →
    (f < 2 ^ 24 → (x ≠ 0 ∨ f ≠ 0) → (floatEncode 32 neg x f).msb = neg ∧ exponentOf (floatEncode 32 neg x f) = x ∧
      fractionOf (floatEncode 32 neg x f) = f ∧
      floatEncode 32 true x f = -floatEncode 32 false x f) ∧
    (f < 2 ^ 56 → (x ≠ 0 ∨ f ≠ 0) → (floatEncode 64 neg x f).msb = neg ∧ exponentOf (floatEncode 64 neg x f) = x ∧
      fractionOf (floatEncode 64 neg x f) = f ∧
      floatEncode 64 true x f = -floatEncode 64 false x f)

/-- Floating-point results are the true ones rounded or truncated, and exceptions when no pattern can hold them (R231,
R232, R234, R239, R241). For normalized operands a word product, quotient, sum or difference (exponents at most 5
apart for the last two) is, when the exponent of the rounded result is in 0 to 127 or the true value is zero,
exact, normalized or zero and at most half a unit of the last place off the true value, and otherwise the
exception; a doubleword one (at most 13 apart) the same with the true value truncated toward zero. With exponents
further apart the sum and difference are the operand of the larger exponent, with its sign. Zero operands: zero
added or subtracted leaves the other operand, zero less a number is its complement, a product with zero and zero
divided are zero, two zeros give zero, and division by zero is the exception. (How the magnitude is rounded,
truncated and its exponent judged is the spec's decision 92 D26, which log 11 marks unsafe. A zero operand is any
pattern of zero fraction: where its exponent is not zero it is no normalized pattern of R231, 93 U10 makes the
result any value for proofs, and the model's choice is log 11, unsafe too.) -/
def Obligations.FloatResultRounds : Prop :=
  (∀ x y : Word, normalizedFloat x → normalizedFloat y →
      RoundsTo (floatMultiply x y) (floatValue x * floatValue y) ∧
      RoundsTo (floatDivide x y) (floatValue x / floatValue y) ∧
      (exponentOf x ≤ exponentOf y + 5 → exponentOf y ≤ exponentOf x + 5 →
        RoundsTo (floatAdd x y) (floatValue x + floatValue y) ∧
        RoundsTo (floatSubtract x y) (floatValue x - floatValue y)) ∧
      (exponentOf y + 5 < exponentOf x → floatAdd x y = .exact x ∧ floatSubtract x y = .exact x) ∧
      (exponentOf x + 5 < exponentOf y → floatAdd x y = .exact y ∧ floatSubtract x y = .exact (-y))) ∧
    (∀ x y : DWord, normalizedFloat x → normalizedFloat y →
      TruncatesTo (floatMultiply x y) (floatValue x * floatValue y) ∧
      TruncatesTo (floatDivide x y) (floatValue x / floatValue y) ∧
      (exponentOf x ≤ exponentOf y + 13 → exponentOf y ≤ exponentOf x + 13 →
        TruncatesTo (floatAdd x y) (floatValue x + floatValue y) ∧
        TruncatesTo (floatSubtract x y) (floatValue x - floatValue y)) ∧
      (exponentOf y + 13 < exponentOf x → floatAdd x y = .exact x ∧ floatSubtract x y = .exact x) ∧
      (exponentOf x + 13 < exponentOf y → floatAdd x y = .exact y ∧ floatSubtract x y = .exact (-y))) ∧
    ∀ n ∈ [32, 64], ∀ x z z' : BitVec n, zeroFloat z → zeroFloat z' →
      (normalizedFloat x → floatAdd z x = .exact x ∧ floatAdd x z = .exact x ∧ floatSubtract z x = .exact (-x) ∧
        floatSubtract x z = .exact x ∧ floatMultiply z x = .exact 0#n ∧ floatMultiply x z = .exact 0#n ∧
        floatDivide z x = .exact 0#n) ∧
      floatAdd z z' = .exact 0#n ∧ floatSubtract z z' = .exact 0#n ∧ floatMultiply z z' = .exact 0#n ∧
      floatDivide x z = .exception

/-- Instructions of an absent option are undefined operation codes (R7, R115, R436, R348, R349). Without option 8620
the eight floating-point instructions, and without option 8610 TRP and TPR, raise the undefined instruction trap
in the unchanged state. -/
def Obligations.AbsentOptionsTrap : Prop :=
  ∀ (s : State) (r : Reg) (m : MemRef) (k : BitVec 4),
    (s.cfg.optFp = false → ∀ i ∈ [Instr.adfw r m, .adfd r m, .sufw r m, .sufd r m, .mpfw r m, .mpfd r m, .dvfw r m,
      .dvfd r m], exec i s = raise .undefinedInstruction 2#18 s) ∧
    (s.cfg.optRtm = false → ∀ i ∈ [Instr.trp k r, .tpr k r], exec i s = raise .undefinedInstruction 2#18 s)

/-- ANMB, ANMH, ANMW, ANMD: result, condition code and frame (R251, R252, R253, R254, R255). With a readable operand
each of the four completes: the byte and halfword forms keep the bits to the left of the field and test the field
as an unsigned number, the word and doubleword forms test the whole result as a signed one; everything else is
unchanged. (The state v that the result is delivered in is s after the memory cycles of the address and the
operand: s itself but for what the bus did between them, see LoadResult.) -/
def Obligations.AndMemory : Prop :=
  ∀ (s v : State) (r : Reg) (m : MemRef) (d : Datum), Reads s m d v →
    ∀ i ∈ [Instr.anmb r m, .anmh r m, .anmw r m, .anmd r m],
      exec i s = .next (match d with
        | .byte b =>
          let x : Nat := b.toNat &&& (s.reg r).toNat % 2 ^ 8
          (v.after 2#18 (orderCC false (x : Int))).setReg r (BitVec.ofNat 32 ((s.reg r).toNat / 2 ^ 8 * 2 ^ 8 + x))
        | .half h =>
          let x : Nat := h.toNat &&& (s.reg r).toNat % 2 ^ 16
          (v.after 2#18 (orderCC false (x : Int))).setReg r (BitVec.ofNat 32 ((s.reg r).toNat / 2 ^ 16 * 2 ^ 16 + x))
        | .word w => v.placed 2#18 r (w &&& s.reg r)
        | .double x => v.placedPair 2#18 r (x &&& s.pair r))

/-- ORMB to ORMD and EOMB to EOMD: result, condition code and frame (R251, R257, R258, R259, R260, R263, R264, R265,
R266). With a readable operand each of the eight completes: bytes and halfwords act on the low bits alone and are
not sign-extended, the condition code is the order of the whole register or pair; everything else is unchanged.
(The state v that the result is delivered in is s after the memory cycles of the address and the operand: s itself
but for what the bus did between them, see LoadResult.) -/
def Obligations.OrXorMemory : Prop :=
  ∀ (s v : State) (r : Reg) (m : MemRef) (d : Datum), Reads s m d v →
    (∀ i ∈ [Instr.ormb r m, .ormh r m, .ormw r m, .ormd r m],
      exec i s = .next (match d with
        | .byte b => v.placed 2#18 r (s.reg r ||| BitVec.ofNat 32 b.toNat)
        | .half h => v.placed 2#18 r (s.reg r ||| BitVec.ofNat 32 h.toNat)
        | .word w => v.placed 2#18 r (s.reg r ||| w)
        | .double x => v.placedPair 2#18 r (s.pair r ||| x))) ∧
    (∀ i ∈ [Instr.eomb r m, .eomh r m, .eomw r m, .eomd r m],
      exec i s = .next (match d with
        | .byte b => v.placed 2#18 r (s.reg r ^^^ BitVec.ofNat 32 b.toNat)
        | .half h => v.placed 2#18 r (s.reg r ^^^ BitVec.ofNat 32 h.toNat)
        | .word w => v.placed 2#18 r (s.reg r ^^^ w)
        | .double x => v.placedPair 2#18 r (s.pair r ^^^ x)))

/-- ANR, ORR, ORRM, EOR, EORM, TRR, TRRM, TRC, TRCM: result, condition code and frame (R256, R261, R262, R268, R269,
R342, R343, R350, R351). Each completes in every state: the stated function of R[d], R[s] and, for the masked
forms, the old R4 is in R[d], CC1 is 0, CC2 to CC4 are its order, everything else is unchanged. -/
def Obligations.RegisterLogicalAndTransfer : Prop :=
  ∀ (s : State) (d src : Reg),
    let x := s.reg d
    let y := s.reg src
    let k := s.reg 4#3
    ∀ p ∈ [(Instr.anr d src, x &&& y), (.orr d src, x ||| y), (.orrm d src, (x ||| y) &&& k), (.eor d src, x ^^^ y),
      (.eorm d src, (x ^^^ y) &&& k), (.trr d src, y), (.trrm d src, y &&& k), (.trc d src, ~~~y),
      (.trcm d src, ~~~y &&& k)],
      exec p.1 s = .next (s.placed 1#18 d p.2)

/-- SBM, ZBM, TBM, SBR, ZBR, TBR: bit changed, condition code and frame (R73, R280, R281, R282, R283, R284, R285,
R288, R289). Each of the six completes (the memory forms with an operand word that can be read and, for SBM and
ZBM, written): the old bit goes to CC1 and the old CC1 to CC3 to CC2 to CC4; SBM and ZBM set or clear that bit of
the addressed byte and store nothing else, the bus free to act between the two cycles, SBR and ZBR that bit of
R[r], TBM and TBR change nothing else. (For an effective F = 0 the addressed byte is the spec's own choice: R280,
93 U7, log 47.) -/
def Obligations.BitInstructions : Prop :=
  ∀ (s u : State) (n : BitVec 3) (r : Reg) (y : BitVec 2) (m : MemRef) (e : Ea),
    let cc := s.psw.cc
    let b := u.tick.byteAt e.op
    let after := u.tick.after 2#18 (bitIn cc (bitAt b n.toNat))
    (Writable s m e u → u.tick.parityBadAt e.word = false →
      (∃ t, exec (.sbm n m) s = .next t ∧ Written after t e.asByte (.byte (b ||| (0x80#8 >>> n.toNat)))) ∧
      (∃ t, exec (.zbm n m) s = .next t ∧ Written after t e.asByte (.byte (b &&& ~~~(0x80#8 >>> n.toNat))))) ∧
    (effAddr s m = .ok (e, u) → u.present e.word = true → u.tick.parityBadAt e.word = false →
      exec (.tbm n m) s = .next after) ∧
    exec (.sbr n r y) s = .next ((s.after 1#18 (bitIn cc (s.reg r &&& oneBit n y != 0#32))).setReg r
      (s.reg r ||| oneBit n y)) ∧
    exec (.zbr n r y) s = .next ((s.after 1#18 (bitIn cc (s.reg r &&& oneBit n y != 0#32))).setReg r
      (s.reg r &&& ~~~(oneBit n y))) ∧
    exec (.tbr n r y) s = .next (s.after 1#18 (bitIn cc (s.reg r &&& oneBit n y != 0#32)))

/-- ABM: stored word, condition code, exception and frame (R73, R280, R286). With an operand word that can be read and
written, ABM completes: the one at bit n of the addressed byte is added to the whole word as a signed number, the
sum is stored in that word and nowhere else, the condition code is that of the stored word, CC1 and the request on
level 29H exactly when the sum does not fit. The bus is free to act between the two cycles. (For an effective F =
0 the addressed byte is the spec's own choice: R280, 93 U7, log 47.) -/
def Obligations.AddBitMemory : Prop :=
  ∀ (s u : State) (n : BitVec 3) (m : MemRef) (e : Ea), Writable s m e u → u.tick.parityBadAt e.word = false →
    let v := (u.tick.wordAt e.word).toInt + (oneBit n e.c).toInt
    let ovf := outOfRange 32 v
    ∃ t, Written (u.tick.after 2#18 (orderCC ovf (v.bmod (2 ^ 32)))) t e.asWord (.word (BitVec.ofInt 32 v)) ∧
      exec (.abm n m) s = .next (t.requestArithmetic ovf)

/-- The eleven compare instructions: condition code and frame (R300, R301, R302, R303, R304, R305, R306, R307, R308,
R309, R310, R311). Each completes (the memory forms with a readable operand): the arithmetic ones write CC1 = 0
and the order of the two signed integers, of unbounded range; the masked ones write CC4 when register and operand
agree in every bit of the mask R4 (each word of a doubleword alike) and zeros in CC1 to CC3; nothing else but the
program count changes, no privilege is needed and no arithmetic exception requested. (The state v that the result
is delivered in is s after the memory cycles of the address and the operand: s itself but for what the bus did
between them, see LoadResult.) -/
def Obligations.CompareRule : Prop :=
  ∀ (s v : State) (r d src : Reg) (imm : BitVec 16) (m : MemRef) (x : Datum),
    (Reads s m x v → ∀ i ∈ [Instr.camb r m, .camh r m, .camw r m, .camd r m],
      exec i s = .next (v.after 2#18 (orderCC false (s.registerInt r x.format - x.int)))) ∧
    exec (.car d src) s = .next (s.after 1#18 (orderCC false ((s.reg d).toInt - (s.reg src).toInt))) ∧
    exec (.ci r imm) s = .next (s.after 2#18 (orderCC false ((s.reg r).toInt - imm.toInt))) ∧
    (Reads s m x v → ∀ i ∈ [Instr.cmmb r m, .cmmh r m, .cmmw r m, .cmmd r m],
      exec i s = .next (v.after 2#18 ⟨false, false, false, match x with
        | .byte b => decide (s.reg r &&& s.reg 4#3 = BitVec.ofNat 32 b.toNat &&& s.reg 4#3)
        | .half h => decide (s.reg r &&& s.reg 4#3 = BitVec.ofInt 32 h.toInt &&& s.reg 4#3)
        | .word w => decide (s.reg r &&& s.reg 4#3 = w &&& s.reg 4#3)
        | .double w => decide (s.reg (pairEven r) &&& s.reg 4#3 = w.extractLsb' 32 32 &&& s.reg 4#3) &&
            decide (s.reg (pairOdd r) &&& s.reg 4#3 = w.extractLsb' 0 32 &&& s.reg 4#3)⟩)) ∧
    exec (.cmr d src) s = .next (s.after 1#18 ⟨false, false, false,
      decide (s.reg d &&& s.reg 4#3 = s.reg src &&& s.reg 4#3)⟩)

/-- BU, BCT, BCF, BFT, BL: target, status transfer, link and frame (R314, R315, R316, R317, R318, R319). A conditional
branch whose condition does not hold moves the program count alone, forming no address. One that is taken, and BL,
when the effective address can be formed, puts bits 13 to 30 of the raw address into the program count and, with
an indirect word, its bits 1 to 12 into the PSWR; BL puts the PSWR with the advanced program count into R0.
Everything else is unchanged. (u is s after the cycles that formed the address.) -/
def Obligations.BranchesAndLink : Prop :=
  ∀ (s : State) (m : MemRef) (d : BitVec 3),
    (∀ i ∈ [Instr.bu m, .bct d m, .bcf d m, .bft m],
      (branchTaken s.psw.cc (s.reg 4#3) i = false → exec i s = .next (s.advance 2#18)) ∧
      (branchTaken s.psw.cc (s.reg 4#3) i = true → ∀ e u, effAddr s m = .ok (e, u) →
        exec i s = .next { u with psw := branchPsw s.psw e })) ∧
    ∀ e u, effAddr s m = .ok (e, u) →
      exec (.bl m) s = .next { u.setReg 0#3 { s.psw with pc := s.psw.pc + 2#18 }.word with psw := branchPsw s.psw e }

/-- BIB, BIH, BIW, BID: increment, branch and frame (R320, R321, R322, R323). R[r] is incremented by 1, 2, 4 or 8
modulo 2^32. If the result is zero the next instruction follows; otherwise, when the address formed with the old
register and no index at the first level can be formed, bits 13 to 30 of it become the program count. The
condition code and everything else is unchanged. (That the address is formed with the register as it was before
the increment, where the register is also an index of an indirect word, is the model's choice: log 19, DEDUCED
from 92 D27; the pseudocode of R320 increments first. That bits 1 to 12 stay with an indirect word too is R320,
R314, R35 and V131; a sentence of R463 says otherwise, and the model's choice between them is log 49, DEDUCED.) -/
def Obligations.BranchAfterIncrement : Prop :=
  ∀ (s : State) (r : Reg) (m : MemRef), ∀ i ∈ [Instr.bib r m, .bih r m, .biw r m, .bid r m],
    let v := BitVec.ofNat 32 ((s.reg r).toNat + (incrementOf i).toNat)
    (v = 0#32 → exec i s = .next ((s.advance 2#18).setReg r v)) ∧
    (v ≠ 0#32 → ∀ e u, effAddr s { m with x := 0#2 } = .ok (e, u) →
      exec i s = .next ((u.setReg r v).setPc (e.raw.extractLsb' 1 18)))

/-- BRI: levels, status transfer, target and frame (R324, R314). Outside the Unprivileged state, when the effective
address can be formed, BRI completes: the active level of highest priority alone is reset (nothing if none is
active), bits 13 to 30 of the raw address become the program count, and with an indirect word its bits 0 to 12
those of the PSWR. Everything else is unchanged. (u is s after the cycles that formed the address.) -/
def Obligations.BriResult : Prop :=
  ∀ (s u : State) (m : MemRef) (e : Ea), s.unprivileged = false → effAddr s m = .ok (e, u) →
    ∃ t, exec (.bri m) s = .next t ∧ t = { u with active := t.active, psw := t.psw } ∧
      t.psw = { branchPsw s.psw e with priv := match e.last with
        | none => s.psw.priv
        | some w => bitAt w 0 } ∧
      ((∀ n, hasLevel s.active n = false) → t.active = s.active) ∧
      ∀ n, hasLevel s.active n = true → (∀ k, hasLevel s.active k = true → k ≠ n → s.prio n < s.prio k) →
        ∀ k, hasLevel t.active k = (hasLevel s.active k && k != n)

/-- BRI indirect through L undoes an entry (R324, R447, R314, R446). After entry to a level that no active level had
blocked, with PSWR bits 9 to 11 zero before it, a BRI indirect through the save location, executed in the entered
state wherever its program count stands and with nothing more on the bus, restores the whole PSWR (state,
condition code, bits 5 to 12, program count) and the active latches, and changes no register and no enabled latch;
the memory outside L is as after the two cycles of the entry. -/
def Obligations.BriUndoesEntry : Prop :=
  ∀ (s t : State) (n : Level) (trapForm f : Bool) (pc : BitVec 18), enter s n trapForm = .ok t → t.within = [] →
    hasLevel s.active n = false → (∀ k, hasLevel s.active k = true → s.prio n < s.prio k) →
    s.psw.mid.extractLsb' 1 3 = 0#3 → 0 < s.cfg.chainLimit →
    let l := saveLocation (s.tick.wordAt (dedicatedAddr n trapForm).wordAddr)
    ∃ u, exec (.bri ⟨0#2, true, f, l.byteAddr⟩) (t.setPc pc) = .next u ∧ u.psw = s.psw ∧ u.active = s.active ∧
      u.enabled = s.enabled ∧ u.regs = s.regs ∧ u.protect = s.protect ∧
      ∀ a : Addr, a.wordAddr ≠ l → u.byteAt a = s.tick.tick.byteAt a

/-- XCR, XCRM: both registers, condition code and frame (R346, R347). Each completes in every state: R[d] and R[s]
(for XCRM ANDed with the old R4) change places, CC1 is 0, CC2 to CC4 are the order of what R[d] held (for XCRM as
masked); with d = s the register holds its own (masked) value; everything else is unchanged. -/
def Obligations.Exchange : Prop :=
  ∀ (s : State) (d src : Reg),
    ∀ p ∈ [(Instr.xcr d src, s.reg d, s.reg src), (.xcrm d src, s.reg d &&& s.reg 4#3, s.reg src &&& s.reg 4#3)],
      ∃ t, exec p.1 s = .next t ∧ t = { s.after 1#18 (orderCC false p.2.1.toInt) with regs := t.regs } ∧
        t.reg d = p.2.2 ∧ t.reg src = p.2.1 ∧ ∀ k, k ≠ d → k ≠ src → t.reg k = s.reg k

/-- TRP and TPR: register, protect register and frame (R37, R38, R348, R349). With option 8610: TRP in the Privileged
state loads the low 24 bits of R[r] into the protect register of a port-protected module, the low 16 bits into the
page bits of a page-protected one, and changes nothing else. TPR reads 24, 16 or no bits right-justified over
zeros (bit 10 of module 0 as one, log 17) into R[r] and changes nothing else; a module closed to port 2 raises the
non-present memory trap. -/
def Obligations.ProtectRegisterTransfers : Prop :=
  ∀ (s : State) (k : BitVec 4) (r : Reg), s.cfg.optRtm = true →
    let old := s.protect[k.toNat]'k.isLt
    let full := if k = 0#4 then old ||| 0x200000#24 else old
    (s.psw.priv = true → exec (.trp k r) s = .next { s.advance 2#18 with
      protect := s.protect.set k.toNat (match s.kindOf k with
        | some .k8634 => (s.reg r).setWidth 24
        | some .k8631 => old.extractLsb' 16 8 ++ (s.reg r).setWidth 16
        | some .k8633 => old.extractLsb' 16 8 ++ (s.reg r).setWidth 16
        | _ => old) k.isLt }) ∧
    (s.kindOf k = some .k8634 → full.extractLsb' 20 2 = 0#2 → exec (.tpr k r) s = raise .nonPresentMemory 2#18 s) ∧
    (s.kindOf k ≠ some .k8634 ∨ full.extractLsb' 20 2 ≠ 0#2 → exec (.tpr k r) s = .next ((s.advance 2#18).setReg r
      (match s.kindOf k with
        | some .k8634 => full.setWidth 32
        | some .k8631 => (full.setWidth 16).setWidth 32
        | some .k8633 => (full.setWidth 16).setWidth 32
        | _ => 0#32)))

/-- TRSW: PSWR bits 1 to 30 and frame (R358). TRSW completes in every state, in no need of privilege: bits 1 to 30 of
R[r] go to the PSWR, so CC1 to CC4 are bits 1 to 4 of R[r] and the next instruction is at the program count in its
bits 13 to 30; bit 0 keeps its value, bit 31 reads 0, and everything else is unchanged. -/
def Obligations.LoadProgramStatus : Prop :=
  ∀ (s : State) (r : Reg), ∃ t, exec (.trsw r) s = .next t ∧ t = { s with
      psw := { priv := s.psw.priv
               cc := ⟨bitAt (s.reg r) 1, bitAt (s.reg r) 2, bitAt (s.reg r) 3, bitAt (s.reg r) 4⟩
               mid := (s.reg r).extractLsb' 19 8
               pc := (s.reg r).extractLsb' 1 18 } } ∧
    t.psw.word = (s.psw.word &&& 0x80000000#32) ||| (s.reg r &&& 0x7FFFFFFE#32)

/-- The ten shifts: result, condition code, exception and frame (R366, R367, R368, R369, R370, R371, R372, R373, R374,
R375). Each completes for every count 0 to 31. The logical and circular ones and the right arithmetic ones leave
the condition code: x * 2^n or x / 2^n of the unsigned pattern, the rotations, the floor of the signed quotient.
The left arithmetic ones keep the sign and shift the other bits; CC1 and the request on level 29H are made exactly
when the signed x * 2^n does not fit, CC2 to CC4 are zero. Everything else is unchanged. -/
def Obligations.Shifts : Prop :=
  ∀ (s : State) (r : Reg) (c : BitVec 5),
    let n := c.toNat
    let x := s.reg r
    let z := s.pair r
    (∀ p ∈ [(Instr.sll r c, BitVec.ofNat 32 (x.toNat * 2 ^ n)), (.srl r c, BitVec.ofNat 32 (x.toNat / 2 ^ n)),
      (.sra r c, BitVec.ofInt 32 (x.toInt / 2 ^ n)),
      (.slc r c, BitVec.ofNat 32 (x.toNat * 2 ^ n + x.toNat * 2 ^ n / 2 ^ 32)),
      (.src r c, BitVec.ofNat 32 (x.toNat / 2 ^ n + x.toNat * 2 ^ (32 - n)))],
      exec p.1 s = .next ((s.advance 1#18).setReg r p.2)) ∧
    (∀ p ∈ [(Instr.slld r c, BitVec.ofNat 64 (z.toNat * 2 ^ n)), (.srld r c, BitVec.ofNat 64 (z.toNat / 2 ^ n)),
      (.srad r c, BitVec.ofInt 64 (z.toInt / 2 ^ n))],
      exec p.1 s = .next ((s.advance 1#18).setPair r p.2)) ∧
    (let ovf := outOfRange 32 (x.toInt * 2 ^ n);
      exec (.sla r c) s = .next (((s.after 1#18 ⟨ovf, false, false, false⟩).setReg r
        (BitVec.ofNat 32 (x.toNat % 2 ^ 31 * 2 ^ n % 2 ^ 31 + x.toNat / 2 ^ 31 * 2 ^ 31))).requestArithmetic ovf)) ∧
    (let ovf := outOfRange 64 (z.toInt * 2 ^ n);
      exec (.slad r c) s = .next (((s.after 1#18 ⟨ovf, false, false, false⟩).setPair r
        (BitVec.ofNat 64 (z.toNat % 2 ^ 63 * 2 ^ n % 2 ^ 63 + z.toNat / 2 ^ 63 * 2 ^ 63))).requestArithmetic ovf))

/-- NOR, NORD, SCZ: result, condition code and frame (R363, R364, R365). Each completes. NOR and NORD multiply a
nonzero register or pair by the largest power 16^k that still fits as a signed number and leave 40H - k in R[b],
written last; zero leaves zero and exponent 0; the condition code is unchanged. SCZ shifts a nonzero register past
its first one at bit k and leaves k in R[b], written last, CC all zero; for a zero register R[b] is 0 and CC4 is
set. Everything else is unchanged. -/
def Obligations.NormalizeAndScan : Prop :=
  ∀ (s : State) (a b : Reg) (k : Nat),
    let x := s.reg a
    let z := s.pair a
    let u := s.advance 1#18
    (x = 0#32 → exec (.nor a b) s = .next (u.setReg b 0#32) ∧
      exec (.scz a b) s = .next ((s.after 1#18 ⟨false, false, false, true⟩).setReg b 0#32)) ∧
    (z = 0#64 → exec (.nord a b) s = .next (u.setReg b 0#32)) ∧
    (x ≠ 0#32 → outOfRange 32 (x.toInt * 16 ^ k) = false → outOfRange 32 (x.toInt * 16 ^ (k + 1)) = true →
      exec (.nor a b) s = .next ((u.setReg a (BitVec.ofInt 32 (x.toInt * 16 ^ k))).setReg b
        (BitVec.ofNat 32 (0x40 - k)))) ∧
    (z ≠ 0#64 → outOfRange 64 (z.toInt * 16 ^ k) = false → outOfRange 64 (z.toInt * 16 ^ (k + 1)) = true →
      exec (.nord a b) s = .next ((u.setPair a (BitVec.ofInt 64 (z.toInt * 16 ^ k))).setReg b
        (BitVec.ofNat 32 (0x40 - k)))) ∧
    (k < 32 → 2 ^ (31 - k) ≤ x.toNat → x.toNat < 2 ^ (32 - k) →
      exec (.scz a b) s = .next (((s.after 1#18 ⟨false, false, false, false⟩).setReg a
        (BitVec.ofNat 32 (x.toNat * 2 ^ (k + 1)))).setReg b (BitVec.ofNat 32 k)))

/-- EXR, EXRR, EXM do what their subject does (R390, R391, R392, R398). With the subject in the register (EXR the word
or its left halfword, EXRR the right halfword) or in a readable memory word (EXM, bit 30 selecting the halfword):
a word instruction that is no execute instruction does exactly what it does in the program; a halfword one does
what it does in the program with the program count one halfword further, so that it ends two halfwords after the
execute instruction (HALT outside the Unprivileged state; in it the trap finds the execute instruction); ADR, for
one, completes with its sum; an execute instruction or an undefined code raises the undefined instruction trap at
the execute instruction. (v is s, for EXM after the cycles that read the subject.) -/
def Obligations.ExecuteSubject : Prop :=
  ∀ (s v : State) (x : Instr) (bytes : List Byte), SubjectOf s x bytes v →
    (∀ i, decode bytes = .ok i → isExecute i = false → (bytes.headD 0#8).msb = true → exec x s = exec i v) ∧
    (∀ i, decode bytes = .ok i → (bytes.headD 0#8).msb = false → (i = .halt → s.unprivileged = false) →
      exec x s = exec i (v.advance 1#18)) ∧
    (decode bytes = .ok .halt → s.unprivileged = true → exec x s = raise .privilegeViolation 2#18 v) ∧
    (∀ d src, decode bytes = .ok (.adr d src) →
      exec x s = .next (v.delivered 2#18 d ((s.reg d).toInt + (s.reg src).toInt) .word)) ∧
    (∀ i, decode bytes = .ok i → isExecute i = true → exec x s = raise .undefinedInstruction 2#18 v) ∧
    (∀ w, decode bytes = .error w → exec x s = raise .undefinedInstruction 2#18 v)

/-- HALT, WAIT, NOP, CALM: effect and frame (R393, R394, R395, R396). Outside the Unprivileged state HALT puts the run
state to HALT, WAIT to WAIT, NOP does nothing, CALM requests level 27H whatever its flag bits; each moves the
program count by one halfword and changes nothing else. -/
def Obligations.ControlInstructions : Prop :=
  ∀ (s : State) (flags : BitVec 10),
    (s.unprivileged = false → exec .halt s = .next { s.advance 1#18 with run := .halt }) ∧
    exec .wait s = .next { s.advance 1#18 with run := .wait } ∧
    exec .nop s = .next (s.advance 1#18) ∧
    ∃ t, exec (.calm flags) s = .next t ∧ t = { s.advance 1#18 with request := t.request } ∧
      ∀ k, hasLevel t.request k = (hasLevel s.request k || k == 0x27#7)

/-- EI, DI, RI, AI, DAI: latches and frame (R411, R412, R413, R414, R415, R416, R452, R453). Outside the Unprivileged
state each of the five completes: EI enables level n, DI disables it and clears its request, if n is a present
level from 12H up; RI requests, AI activates and DAI deactivates it, if it is a present level from 12H up, or 00H
or 01H in an installation whose program reaches these two; no other latch and nothing else but the program count
changes. (R411 and the pseudocode of R414 to R416 have the three operate on 00H and 01H, R452 and R453 say that a
program can do nothing to them; which holds is the parameter protectLevelsByProgram, the model's choice, log 27.) -/
def Obligations.InterruptControl : Prop :=
  ∀ (s : State) (n : Level), s.unprivileged = false →
    let some12 := decide (0x12 ≤ n.toNat) && hasLevel s.cfg.levelsPresent n
    let someRi := (decide (n.toNat ≤ 0x01) && s.cfg.protectLevelsByProgram || decide (0x12 ≤ n.toNat)) &&
      hasLevel s.cfg.levelsPresent n
    let u := s.advance 2#18
    (∃ t, exec (.ei n) s = .next t ∧ t = { u with enabled := t.enabled } ∧
      ∀ k, hasLevel t.enabled k = (hasLevel s.enabled k || (some12 && k == n))) ∧
    (∃ t, exec (.di n) s = .next t ∧ t = { u with enabled := t.enabled, request := t.request } ∧
      ∀ k, hasLevel t.enabled k = (hasLevel s.enabled k && !(some12 && k == n)) ∧
        hasLevel t.request k = (hasLevel s.request k && !(some12 && k == n))) ∧
    (∃ t, exec (.ri n) s = .next t ∧ t = { u with request := t.request } ∧
      ∀ k, hasLevel t.request k = (hasLevel s.request k || (someRi && k == n))) ∧
    (∃ t, exec (.ai n) s = .next t ∧ t = { u with active := t.active } ∧
      ∀ k, hasLevel t.active k = (hasLevel s.active k || (someRi && k == n))) ∧
    (∃ t, exec (.dai n) s = .next t ∧ t = { u with active := t.active } ∧
      ∀ k, hasLevel t.active k = (hasLevel s.active k && !(someRi && k == n)))

/-- CD and TD: channel, condition code and frame (R419, R420, R422, R428, R429). Outside the Unprivileged state: with
no channel at the device number CD changes nothing and TD leaves CC 0000; with one, CD leaves the command held in
that channel, starts the block (with reinitialization as bit 17 says) when bit 16 is one, ends reinitialization
when bit 17 alone is one, and changes no other channel; bit 16 also loads the Transfer Control Word register of a
high-priority channel from its dedicated location, a refused access or bad parity setting the channel's
conditions; the register and the conditions of a low-priority channel, and everything else, stay. TD leaves an
answer of the channel in CC1 to CC4 (log 13) and changes nothing else. (That the command is held and the block
starts, or the reinitialization flag changes, at once is the model's choice: log 31; R422 has the flag cleared
after the block in progress. That neither instruction clears a condition of the channel is log 43, that a Transfer
Control Word of bad parity is loaded as read log 33, and that an owed service request stays log 41, each the
model's choice too; so is that a transfer that is pending or half done when the block starts is left as it is, log
31. The port 1 check is log 16.) -/
def Obligations.DeviceInstructions : Prop :=
  ∀ (s : State) (device : BitVec 7) (code : BitVec 16), s.unprivileged = false →
    let k := channelOfDevice device
    let c := s.channels[k]
    let d : WordAddr := BitVec.ofNat 17 (0x40 + k.val)
    let loads := bitAt code 0 && s.cfg.channels[k].highPriority
    (s.cfg.channels[k].installed = false → exec (.cd device code) s = .next (s.advance 2#18) ∧
      exec (.td device code) s = .next (s.after 2#18 ⟨false, false, false, false⟩)) ∧
    (s.cfg.channels[k].installed = true →
      (∃ c : CC, exec (.td device code) s = .next (s.after 2#18 c).drawn) ∧
      ∃ t, exec (.cd device code) s = .next t ∧ t = { s.advance 2#18 with channels := t.channels } ∧
        (∀ j : Fin 16, j ≠ k → t.channels[j] = s.channels[j]) ∧
        t.channels[k] = { c with
          command := some ⟨device, code⟩
          busy := c.busy || bitAt code 0
          autoReinit := if bitAt code 0 then bitAt code 1 else c.autoReinit && !bitAt code 1
          tcw := if loads && s.ioPresent d then s.wordAt d else c.tcw
          parityError := c.parityError || (loads && s.ioPresent d && s.parityBadAt d)
          illegalAccess := c.illegalAccess || (loads && !s.ioPresent d) })

/-- A privileged instruction in the Unprivileged state is a privilege violation (R437, R410, R324, R393, R348). In the
Unprivileged state HALT, BRI, EI, DI, RI, AI, DAI, CD, TD, and in the Unprivileged or Semi-Privileged state TRP,
raise the privilege violation trap in the unchanged state. -/
def Obligations.PrivilegedTraps : Prop :=
  ∀ (s : State) (r : Reg) (n device : Level) (code : BitVec 16) (k : BitVec 4) (m : MemRef),
    (s.unprivileged = true → exec .halt s = raise .privilegeViolation 1#18 s ∧
      ∀ i ∈ [Instr.bri m, .ei n, .di n, .ri n, .ai n, .dai n, .cd device code, .td device code],
        exec i s = raise .privilegeViolation 2#18 s) ∧
    (s.cfg.optRtm = true → s.psw.priv = false → exec (.trp k r) s = raise .privilegeViolation 2#18 s)

/-- The AIOS: input and output transfers of both kinds of channel, refused accesses, and the bus between two cycles
(R73, R82, R421, R425, R426, R427, R428, R429). The AIOS answers a pending transfer interrupt of a channel under
its Transfer Control Word, that of the register of a high-priority channel or of the dedicated location of a
low-priority one, which must be present: an input transfer puts the low byte, halfword or word of the data
register into the place the word points to (code 010 counts as a word) when port 1 may write there, an output
transfer brings it, right-justified, into the data register when port 1 may read there; a refused access moves
nothing and sets Illegal Memory Access, bad parity sets the parity condition. Unless the count ends, the count
goes down by one and the address up by the unit, in the register or, if it may be written, in the dedicated
location; when it ends, a reinitializing channel requests its service interrupt, a high-priority one loading its
register again, and another is no longer busy and owes the request, which the event that its device is ready makes
(log 41; that the load again comes in the same bus event as the last datum is the model's choice there). No
register, no PSWR bit, no other channel and no other byte changes. A low-priority channel without access to its
dedicated location moves nothing. The cycles of a low-priority channel are three separate ones; with several
channels pending the one of the higher chassis position goes first; a step for which the model lists nothing
begins with this answer; before a memory cycle of the CP comes what is listed for it and nothing else. (That the
port 1 bits are checked without OPT_DMA too, and at the dedicated location, is log 16; the order and the listing
are logs 15 and 40; conditions are never cleared: log 43; that a datum or a Transfer Control Word of bad parity is
used as read and the block goes on is log 33, the model's choice where R428 leaves it to the device.) -/
def Obligations.AiosInputTransfer : Prop :=
  ∀ (s : State) (k : Fin 16),
    let c := s.channels[k]
    let d : WordAddr := BitVec.ofNat 17 (0x40 + k.val)
    let high := s.cfg.channels[k].highPriority
    let u := processTransfer s k
    (∀ dir : Direction, c.transfer = some (.requested dir) →
      (high = false → s.ioPresent d = false → u = { s with channels := u.channels } ∧
        (∀ j : Fin 16, j ≠ k → u.channels[j] = s.channels[j]) ∧
        u.channels[k] = { c with transfer := none, illegalAccess := true }) ∧
      (high = true ∨ s.ioPresent d = true →
        let w := if high then c.tcw else s.wordAt d
        let e := controlEa w
        let allowed := if dir = .input then s.ioWritable e.word else s.ioPresent e.word
        let stored := decide (dir = .input) && allowed
        let fetched := decide (dir = .output) && allowed
        let more := blockGoesOn w
        let back := !high && more && s.ioWritable d
        let reload := high && !more && c.autoReinit
        u = { s with mem := u.mem, parityBad := u.parityBad, channels := u.channels, request := u.request } ∧
        (stored = true → (e.word ≠ d ∨ back = false) → u.datum e = unitOf c.data e.format) ∧
        (back = true → u.wordAt d = advancedControl w) ∧
        (∀ a : Addr, (stored = false ∨ covers e a = false) → (back = false ∨ a.wordAddr ≠ d) →
          u.byteAt a = s.byteAt a) ∧
        (∀ x : WordAddr, u.parityBadAt x = (s.parityBadAt x && !(stored && coversWord e x) && !(back && x == d))) ∧
        (∀ j : Fin 16, j ≠ k → u.channels[j] = s.channels[j]) ∧
        u.channels[k] = { c with
          transfer := none
          busy := c.busy && (more || c.autoReinit)
          serviceOwed := c.serviceOwed || (!more && !c.autoReinit)
          data := if fetched then (s.datum e).rightJustified else c.data
          tcw := if high && more then advancedControl w else if reload && s.ioPresent d then u.wordAt d else c.tcw
          parityError := c.parityError || (!high && s.parityBadAt d) || (fetched && s.parityBadAt e.word) ||
            (reload && s.ioPresent d && u.parityBadAt d)
          illegalAccess := c.illegalAccess || !allowed || (!high && more && !s.ioWritable d) ||
            (reload && !s.ioPresent d) } ∧
        ∀ n, hasLevel u.request n = (hasLevel s.request n ||
          (!more && c.autoReinit && hasLevel s.cfg.levelsPresent n && decide (n.toNat = 0x14 + k.val))))) ∧
    u = transferCycle (transferCycle (transferCycle s k) k) k ∧
    ((∀ j : Fin 16, j ≠ k → s.channels[j].transfer = none) → aios s = u) ∧
    (∀ j : Fin 16, j ≠ k → (∀ i : Fin 16, i ≠ j → i ≠ k → s.channels[i].transfer = none) →
      s.cfg.channels[k].siActual.toNat < s.cfg.channels[j].siActual.toNat → aios s = processTransfer u j) ∧
    (∀ j : Fin 16, (aios s).channels[j].transfer = none) ∧
    (s.inputs = [] → s.run ≠ .halt → s.run ≠ .off →
      prepare s = serviceAndFetch { aios s with within := [] }) ∧
    (∀ n, s.cfg.channels[k].installed = true → hasLevel (applyEvent s (.service k)).request n =
      (hasLevel s.request n || (hasLevel s.cfg.levelsPresent n && decide (n.toNat = 0x14 + k.val)))) ∧
    BusOnly s s.tick ∧ (s.within = [] → s.tick = s) ∧
    ∀ rest, s.within = [.cycle k] :: rest → s.run ≠ .halt → s.run ≠ .off →
      (∀ j : Fin 16, j ≠ k → s.channels[j].transfer = none) →
      s.tick = { transferCycle s k with within := rest }

/-- An endless indirect chain makes no progress (R504, R452). An unindexed indirect word that addresses itself,
readable and with nothing on the bus, has no effective address. An instruction whose address has none leaves
everything as the cycles left it but for the mark of an unfinished instruction, unless level 00H or 01H is
requested with a usable trap form and nothing of the same or a higher priority active: then that level is entered
in its trap form from the PSWR that addresses the instruction. (That no progress is a next state with the model's
own mark set, and that CHAIN_LIMIT words are what decides it, is the model's choice: log 20; R504 says only that
the instruction makes no progress.) -/
def Obligations.EndlessChain : Prop :=
  ∀ s : State,
    (∀ (f : Bool) (w : WordAddr) (c : BitVec 2), s.within = [] → s.present w = true → s.parityBadAt w = false →
      MemRef.ofWord (s.wordAt w) = ⟨0#2, true, f, w ++ c⟩ → effAddr s ⟨0#2, true, f, w ++ c⟩ = .error (.hang s)) ∧
    ∀ (r : Reg) (n : BitVec 3) (m : MemRef) (u : State), effAddr s m = .error (.hang u) → BusOnly s u ∧
      ∀ i ∈ plainLoads r m ++ operandReaders r m ++ multiplyDivides r m ++ operandWriters r m ++ memoryAdders r m ++
        bitUpdaters n m ++ addressUsers r n m,
        ((∀ l : Level, l.toNat ≤ 1 → hasLevel u.request l = false ∨ s.cfg.optRtm = false ∨ s.keylock = .off ∨
          (∃ k, hasLevel s.active k = true ∧ s.prio k ≤ s.prio l)) → exec i s = .next { u with hung := true }) ∧
        (∀ l : Level, l.toNat ≤ 1 → hasLevel u.request l = true → (l = 1#7 → hasLevel u.request 0#7 = false) →
          s.cfg.optRtm = true → s.keylock ≠ .off → (∀ k, hasLevel s.active k = true → s.prio l < s.prio k) →
          EntryReady u l true → ∃ t, exec i s = .next t ∧ Entered u t l true)

/-- An unprivileged program cannot take control of the machine (R75, R180, R433, R437, R448, R460). Whatever
instruction the Unprivileged state executes with a next state, the protect registers, the enabled latches, SEMI,
the keyswitch and keylock and the installation are unchanged and the machine is not halted; and either the state
is still Unprivileged, no active latch has changed and, with nothing on the bus, no byte of a protected page and
no channel has changed, or the next state is that of an entry to level 00H, 01H or a trap level in its trap form
from a state that is the one before the instruction in all but the general registers and the condition code that
LB to LD keep (R433), the general registers that LF has loaded (R180), and what the bus did. (That LF keeps the
registers before a word of bad parity is R180 with 92 D28; R433 by itself has LF follow the general rule, nothing
changed, and the model's choice between them is log 18, DEDUCED.) -/
def Obligations.UnprivilegedConfined : Prop :=
  ∀ (s t : State) (i : Instr), s.unprivileged = true → exec i s = .next t →
    t.protect = s.protect ∧ t.enabled = s.enabled ∧ t.semi = s.semi ∧ t.keyswitch = s.keyswitch ∧
      t.keyswitchPending = s.keyswitchPending ∧ t.keylock = s.keylock ∧ t.cfg = s.cfg ∧
      (t.run = .halt → s.run = .halt) ∧ (t.run = .off → s.run = .off) ∧
      (s.within = [] → t.channels = s.channels) ∧
      ((t.unprivileged = true ∧ t.active = s.active ∧
          (s.within = [] → ∀ a : Addr, s.pageLocked a.wordAddr = true → t.byteAt a = s.byteAt a)) ∨
        ∃ (u : State) (n : Level), n ∈ [0x00#7, 0x01#7, 0x12#7, 0x24#7, 0x25#7, 0x26#7] ∧
          BusOnly { s with regs := u.regs, psw := { s.psw with cc := u.psw.cc } } u ∧
          (s.within = [] → u = { s with regs := u.regs, psw := { s.psw with cc := u.psw.cc } }) ∧
          Entered u t n true)
end

