-- ==== Sys2Proof/Laws/State.lean ====
section
/-!
SUPPORT. One lemma for each field and each named update of the state: what the update leaves in the field.
-/

namespace Sys2Proof.Machine

@[simp] theorem State.setReg_regs (s : State) (r : Reg) (v : Word) : (s.setReg r v).regs = s.regs.set r.toNat v r.isLt := rfl
@[simp] theorem State.setReg_psw (s : State) (r : Reg) (v : Word) : (s.setReg r v).psw = s.psw := rfl
@[simp] theorem State.setReg_mem (s : State) (r : Reg) (v : Word) : (s.setReg r v).mem = s.mem := rfl
@[simp] theorem State.setReg_parityBad (s : State) (r : Reg) (v : Word) : (s.setReg r v).parityBad = s.parityBad := rfl
@[simp] theorem State.setReg_protect (s : State) (r : Reg) (v : Word) : (s.setReg r v).protect = s.protect := rfl
@[simp] theorem State.setReg_enabled (s : State) (r : Reg) (v : Word) : (s.setReg r v).enabled = s.enabled := rfl
@[simp] theorem State.setReg_request (s : State) (r : Reg) (v : Word) : (s.setReg r v).request = s.request := rfl
@[simp] theorem State.setReg_active (s : State) (r : Reg) (v : Word) : (s.setReg r v).active = s.active := rfl
@[simp] theorem State.setReg_shield (s : State) (r : Reg) (v : Word) : (s.setReg r v).shield = s.shield := rfl
@[simp] theorem State.setReg_semi (s : State) (r : Reg) (v : Word) : (s.setReg r v).semi = s.semi := rfl
@[simp] theorem State.setReg_keyswitchPending (s : State) (r : Reg) (v : Word) : (s.setReg r v).keyswitchPending = s.keyswitchPending := rfl
@[simp] theorem State.setReg_keyswitch (s : State) (r : Reg) (v : Word) : (s.setReg r v).keyswitch = s.keyswitch := rfl
@[simp] theorem State.setReg_keylock (s : State) (r : Reg) (v : Word) : (s.setReg r v).keylock = s.keylock := rfl
@[simp] theorem State.setReg_controlSwitches (s : State) (r : Reg) (v : Word) : (s.setReg r v).controlSwitches = s.controlSwitches := rfl
@[simp] theorem State.setReg_run (s : State) (r : Reg) (v : Word) : (s.setReg r v).run = s.run := rfl
@[simp] theorem State.setReg_errorIndicator (s : State) (r : Reg) (v : Word) : (s.setReg r v).errorIndicator = s.errorIndicator := rfl
@[simp] theorem State.setReg_intervalTimer (s : State) (r : Reg) (v : Word) : (s.setReg r v).intervalTimer = s.intervalTimer := rfl
@[simp] theorem State.setReg_channels (s : State) (r : Reg) (v : Word) : (s.setReg r v).channels = s.channels := rfl
@[simp] theorem State.setReg_hung (s : State) (r : Reg) (v : Word) : (s.setReg r v).hung = s.hung := rfl
@[simp] theorem State.setReg_cfg (s : State) (r : Reg) (v : Word) : (s.setReg r v).cfg = s.cfg := rfl
@[simp] theorem State.setReg_inputs (s : State) (r : Reg) (v : Word) : (s.setReg r v).inputs = s.inputs := rfl
@[simp] theorem State.setReg_within (s : State) (r : Reg) (v : Word) : (s.setReg r v).within = s.within := rfl
@[simp] theorem State.setReg_draws (s : State) (r : Reg) (v : Word) : (s.setReg r v).draws = s.draws := rfl

@[simp] theorem State.setByte_regs (s : State) (a : Addr) (b : Byte) : (s.setByte a b).regs = s.regs := rfl
@[simp] theorem State.setByte_psw (s : State) (a : Addr) (b : Byte) : (s.setByte a b).psw = s.psw := rfl
@[simp] theorem State.setByte_mem (s : State) (a : Addr) (b : Byte) : (s.setByte a b).mem = memPut s.mem a.toNat b := rfl
@[simp] theorem State.setByte_parityBad (s : State) (a : Addr) (b : Byte) : (s.setByte a b).parityBad = s.parityBad := rfl
@[simp] theorem State.setByte_protect (s : State) (a : Addr) (b : Byte) : (s.setByte a b).protect = s.protect := rfl
@[simp] theorem State.setByte_enabled (s : State) (a : Addr) (b : Byte) : (s.setByte a b).enabled = s.enabled := rfl
@[simp] theorem State.setByte_request (s : State) (a : Addr) (b : Byte) : (s.setByte a b).request = s.request := rfl
@[simp] theorem State.setByte_active (s : State) (a : Addr) (b : Byte) : (s.setByte a b).active = s.active := rfl
@[simp] theorem State.setByte_shield (s : State) (a : Addr) (b : Byte) : (s.setByte a b).shield = s.shield := rfl
@[simp] theorem State.setByte_semi (s : State) (a : Addr) (b : Byte) : (s.setByte a b).semi = s.semi := rfl
@[simp] theorem State.setByte_keyswitchPending (s : State) (a : Addr) (b : Byte) : (s.setByte a b).keyswitchPending = s.keyswitchPending := rfl
@[simp] theorem State.setByte_keyswitch (s : State) (a : Addr) (b : Byte) : (s.setByte a b).keyswitch = s.keyswitch := rfl
@[simp] theorem State.setByte_keylock (s : State) (a : Addr) (b : Byte) : (s.setByte a b).keylock = s.keylock := rfl
@[simp] theorem State.setByte_controlSwitches (s : State) (a : Addr) (b : Byte) : (s.setByte a b).controlSwitches = s.controlSwitches := rfl
@[simp] theorem State.setByte_run (s : State) (a : Addr) (b : Byte) : (s.setByte a b).run = s.run := rfl
@[simp] theorem State.setByte_errorIndicator (s : State) (a : Addr) (b : Byte) : (s.setByte a b).errorIndicator = s.errorIndicator := rfl
@[simp] theorem State.setByte_intervalTimer (s : State) (a : Addr) (b : Byte) : (s.setByte a b).intervalTimer = s.intervalTimer := rfl
@[simp] theorem State.setByte_channels (s : State) (a : Addr) (b : Byte) : (s.setByte a b).channels = s.channels := rfl
@[simp] theorem State.setByte_hung (s : State) (a : Addr) (b : Byte) : (s.setByte a b).hung = s.hung := rfl
@[simp] theorem State.setByte_cfg (s : State) (a : Addr) (b : Byte) : (s.setByte a b).cfg = s.cfg := rfl
@[simp] theorem State.setByte_inputs (s : State) (a : Addr) (b : Byte) : (s.setByte a b).inputs = s.inputs := rfl
@[simp] theorem State.setByte_within (s : State) (a : Addr) (b : Byte) : (s.setByte a b).within = s.within := rfl
@[simp] theorem State.setByte_draws (s : State) (a : Addr) (b : Byte) : (s.setByte a b).draws = s.draws := rfl

@[simp] theorem State.setHalf_regs (s : State) (a : Addr) (h : Half) : (s.setHalf a h).regs = s.regs := rfl
@[simp] theorem State.setHalf_psw (s : State) (a : Addr) (h : Half) : (s.setHalf a h).psw = s.psw := rfl
@[simp] theorem State.setHalf_parityBad (s : State) (a : Addr) (h : Half) : (s.setHalf a h).parityBad = s.parityBad := rfl
@[simp] theorem State.setHalf_protect (s : State) (a : Addr) (h : Half) : (s.setHalf a h).protect = s.protect := rfl
@[simp] theorem State.setHalf_enabled (s : State) (a : Addr) (h : Half) : (s.setHalf a h).enabled = s.enabled := rfl
@[simp] theorem State.setHalf_request (s : State) (a : Addr) (h : Half) : (s.setHalf a h).request = s.request := rfl
@[simp] theorem State.setHalf_active (s : State) (a : Addr) (h : Half) : (s.setHalf a h).active = s.active := rfl
@[simp] theorem State.setHalf_shield (s : State) (a : Addr) (h : Half) : (s.setHalf a h).shield = s.shield := rfl
@[simp] theorem State.setHalf_semi (s : State) (a : Addr) (h : Half) : (s.setHalf a h).semi = s.semi := rfl
@[simp] theorem State.setHalf_keyswitchPending (s : State) (a : Addr) (h : Half) : (s.setHalf a h).keyswitchPending = s.keyswitchPending := rfl
@[simp] theorem State.setHalf_keyswitch (s : State) (a : Addr) (h : Half) : (s.setHalf a h).keyswitch = s.keyswitch := rfl
@[simp] theorem State.setHalf_keylock (s : State) (a : Addr) (h : Half) : (s.setHalf a h).keylock = s.keylock := rfl
@[simp] theorem State.setHalf_controlSwitches (s : State) (a : Addr) (h : Half) : (s.setHalf a h).controlSwitches = s.controlSwitches := rfl
@[simp] theorem State.setHalf_run (s : State) (a : Addr) (h : Half) : (s.setHalf a h).run = s.run := rfl
@[simp] theorem State.setHalf_errorIndicator (s : State) (a : Addr) (h : Half) : (s.setHalf a h).errorIndicator = s.errorIndicator := rfl
@[simp] theorem State.setHalf_intervalTimer (s : State) (a : Addr) (h : Half) : (s.setHalf a h).intervalTimer = s.intervalTimer := rfl
@[simp] theorem State.setHalf_channels (s : State) (a : Addr) (h : Half) : (s.setHalf a h).channels = s.channels := rfl
@[simp] theorem State.setHalf_hung (s : State) (a : Addr) (h : Half) : (s.setHalf a h).hung = s.hung := rfl
@[simp] theorem State.setHalf_cfg (s : State) (a : Addr) (h : Half) : (s.setHalf a h).cfg = s.cfg := rfl
@[simp] theorem State.setHalf_inputs (s : State) (a : Addr) (h : Half) : (s.setHalf a h).inputs = s.inputs := rfl
@[simp] theorem State.setHalf_within (s : State) (a : Addr) (h : Half) : (s.setHalf a h).within = s.within := rfl
@[simp] theorem State.setHalf_draws (s : State) (a : Addr) (h : Half) : (s.setHalf a h).draws = s.draws := rfl

@[simp] theorem State.setWord_regs (s : State) (w : WordAddr) (v : Word) : (s.setWord w v).regs = s.regs := rfl
@[simp] theorem State.setWord_psw (s : State) (w : WordAddr) (v : Word) : (s.setWord w v).psw = s.psw := rfl
@[simp] theorem State.setWord_mem (s : State) (w : WordAddr) (v : Word) : (s.setWord w v).mem = memPutWord s.mem w v := rfl
@[simp] theorem State.setWord_parityBad (s : State) (w : WordAddr) (v : Word) : (s.setWord w v).parityBad = cleanParity s.parityBad w := rfl
@[simp] theorem State.setWord_protect (s : State) (w : WordAddr) (v : Word) : (s.setWord w v).protect = s.protect := rfl
@[simp] theorem State.setWord_enabled (s : State) (w : WordAddr) (v : Word) : (s.setWord w v).enabled = s.enabled := rfl
@[simp] theorem State.setWord_request (s : State) (w : WordAddr) (v : Word) : (s.setWord w v).request = s.request := rfl
@[simp] theorem State.setWord_active (s : State) (w : WordAddr) (v : Word) : (s.setWord w v).active = s.active := rfl
@[simp] theorem State.setWord_shield (s : State) (w : WordAddr) (v : Word) : (s.setWord w v).shield = s.shield := rfl
@[simp] theorem State.setWord_semi (s : State) (w : WordAddr) (v : Word) : (s.setWord w v).semi = s.semi := rfl
@[simp] theorem State.setWord_keyswitchPending (s : State) (w : WordAddr) (v : Word) : (s.setWord w v).keyswitchPending = s.keyswitchPending := rfl
@[simp] theorem State.setWord_keyswitch (s : State) (w : WordAddr) (v : Word) : (s.setWord w v).keyswitch = s.keyswitch := rfl
@[simp] theorem State.setWord_keylock (s : State) (w : WordAddr) (v : Word) : (s.setWord w v).keylock = s.keylock := rfl
@[simp] theorem State.setWord_controlSwitches (s : State) (w : WordAddr) (v : Word) : (s.setWord w v).controlSwitches = s.controlSwitches := rfl
@[simp] theorem State.setWord_run (s : State) (w : WordAddr) (v : Word) : (s.setWord w v).run = s.run := rfl
@[simp] theorem State.setWord_errorIndicator (s : State) (w : WordAddr) (v : Word) : (s.setWord w v).errorIndicator = s.errorIndicator := rfl
@[simp] theorem State.setWord_intervalTimer (s : State) (w : WordAddr) (v : Word) : (s.setWord w v).intervalTimer = s.intervalTimer := rfl
@[simp] theorem State.setWord_channels (s : State) (w : WordAddr) (v : Word) : (s.setWord w v).channels = s.channels := rfl
@[simp] theorem State.setWord_hung (s : State) (w : WordAddr) (v : Word) : (s.setWord w v).hung = s.hung := rfl
@[simp] theorem State.setWord_cfg (s : State) (w : WordAddr) (v : Word) : (s.setWord w v).cfg = s.cfg := rfl
@[simp] theorem State.setWord_inputs (s : State) (w : WordAddr) (v : Word) : (s.setWord w v).inputs = s.inputs := rfl
@[simp] theorem State.setWord_within (s : State) (w : WordAddr) (v : Word) : (s.setWord w v).within = s.within := rfl
@[simp] theorem State.setWord_draws (s : State) (w : WordAddr) (v : Word) : (s.setWord w v).draws = s.draws := rfl

@[simp] theorem State.setPair_psw (s : State) (r : Reg) (v : DWord) : (s.setPair r v).psw = s.psw := rfl
@[simp] theorem State.setPair_mem (s : State) (r : Reg) (v : DWord) : (s.setPair r v).mem = s.mem := rfl
@[simp] theorem State.setPair_parityBad (s : State) (r : Reg) (v : DWord) : (s.setPair r v).parityBad = s.parityBad := rfl
@[simp] theorem State.setPair_protect (s : State) (r : Reg) (v : DWord) : (s.setPair r v).protect = s.protect := rfl
@[simp] theorem State.setPair_enabled (s : State) (r : Reg) (v : DWord) : (s.setPair r v).enabled = s.enabled := rfl
@[simp] theorem State.setPair_request (s : State) (r : Reg) (v : DWord) : (s.setPair r v).request = s.request := rfl
@[simp] theorem State.setPair_active (s : State) (r : Reg) (v : DWord) : (s.setPair r v).active = s.active := rfl
@[simp] theorem State.setPair_shield (s : State) (r : Reg) (v : DWord) : (s.setPair r v).shield = s.shield := rfl
@[simp] theorem State.setPair_semi (s : State) (r : Reg) (v : DWord) : (s.setPair r v).semi = s.semi := rfl
@[simp] theorem State.setPair_keyswitchPending (s : State) (r : Reg) (v : DWord) : (s.setPair r v).keyswitchPending = s.keyswitchPending := rfl
@[simp] theorem State.setPair_keyswitch (s : State) (r : Reg) (v : DWord) : (s.setPair r v).keyswitch = s.keyswitch := rfl
@[simp] theorem State.setPair_keylock (s : State) (r : Reg) (v : DWord) : (s.setPair r v).keylock = s.keylock := rfl
@[simp] theorem State.setPair_controlSwitches (s : State) (r : Reg) (v : DWord) : (s.setPair r v).controlSwitches = s.controlSwitches := rfl
@[simp] theorem State.setPair_run (s : State) (r : Reg) (v : DWord) : (s.setPair r v).run = s.run := rfl
@[simp] theorem State.setPair_errorIndicator (s : State) (r : Reg) (v : DWord) : (s.setPair r v).errorIndicator = s.errorIndicator := rfl
@[simp] theorem State.setPair_intervalTimer (s : State) (r : Reg) (v : DWord) : (s.setPair r v).intervalTimer = s.intervalTimer := rfl
@[simp] theorem State.setPair_channels (s : State) (r : Reg) (v : DWord) : (s.setPair r v).channels = s.channels := rfl
@[simp] theorem State.setPair_hung (s : State) (r : Reg) (v : DWord) : (s.setPair r v).hung = s.hung := rfl
@[simp] theorem State.setPair_cfg (s : State) (r : Reg) (v : DWord) : (s.setPair r v).cfg = s.cfg := rfl
@[simp] theorem State.setPair_inputs (s : State) (r : Reg) (v : DWord) : (s.setPair r v).inputs = s.inputs := rfl
@[simp] theorem State.setPair_within (s : State) (r : Reg) (v : DWord) : (s.setPair r v).within = s.within := rfl
@[simp] theorem State.setPair_draws (s : State) (r : Reg) (v : DWord) : (s.setPair r v).draws = s.draws := rfl

@[simp] theorem State.setPc_regs (s : State) (pc : BitVec 18) : (s.setPc pc).regs = s.regs := rfl
@[simp] theorem State.setPc_psw (s : State) (pc : BitVec 18) : (s.setPc pc).psw = { s.psw with pc := pc } := rfl
@[simp] theorem State.setPc_mem (s : State) (pc : BitVec 18) : (s.setPc pc).mem = s.mem := rfl
@[simp] theorem State.setPc_parityBad (s : State) (pc : BitVec 18) : (s.setPc pc).parityBad = s.parityBad := rfl
@[simp] theorem State.setPc_protect (s : State) (pc : BitVec 18) : (s.setPc pc).protect = s.protect := rfl
@[simp] theorem State.setPc_enabled (s : State) (pc : BitVec 18) : (s.setPc pc).enabled = s.enabled := rfl
@[simp] theorem State.setPc_request (s : State) (pc : BitVec 18) : (s.setPc pc).request = s.request := rfl
@[simp] theorem State.setPc_active (s : State) (pc : BitVec 18) : (s.setPc pc).active = s.active := rfl
@[simp] theorem State.setPc_shield (s : State) (pc : BitVec 18) : (s.setPc pc).shield = s.shield := rfl
@[simp] theorem State.setPc_semi (s : State) (pc : BitVec 18) : (s.setPc pc).semi = s.semi := rfl
@[simp] theorem State.setPc_keyswitchPending (s : State) (pc : BitVec 18) : (s.setPc pc).keyswitchPending = s.keyswitchPending := rfl
@[simp] theorem State.setPc_keyswitch (s : State) (pc : BitVec 18) : (s.setPc pc).keyswitch = s.keyswitch := rfl
@[simp] theorem State.setPc_keylock (s : State) (pc : BitVec 18) : (s.setPc pc).keylock = s.keylock := rfl
@[simp] theorem State.setPc_controlSwitches (s : State) (pc : BitVec 18) : (s.setPc pc).controlSwitches = s.controlSwitches := rfl
@[simp] theorem State.setPc_run (s : State) (pc : BitVec 18) : (s.setPc pc).run = s.run := rfl
@[simp] theorem State.setPc_errorIndicator (s : State) (pc : BitVec 18) : (s.setPc pc).errorIndicator = s.errorIndicator := rfl
@[simp] theorem State.setPc_intervalTimer (s : State) (pc : BitVec 18) : (s.setPc pc).intervalTimer = s.intervalTimer := rfl
@[simp] theorem State.setPc_channels (s : State) (pc : BitVec 18) : (s.setPc pc).channels = s.channels := rfl
@[simp] theorem State.setPc_hung (s : State) (pc : BitVec 18) : (s.setPc pc).hung = s.hung := rfl
@[simp] theorem State.setPc_cfg (s : State) (pc : BitVec 18) : (s.setPc pc).cfg = s.cfg := rfl
@[simp] theorem State.setPc_inputs (s : State) (pc : BitVec 18) : (s.setPc pc).inputs = s.inputs := rfl
@[simp] theorem State.setPc_within (s : State) (pc : BitVec 18) : (s.setPc pc).within = s.within := rfl
@[simp] theorem State.setPc_draws (s : State) (pc : BitVec 18) : (s.setPc pc).draws = s.draws := rfl

@[simp] theorem State.setCC_regs (s : State) (c : CC) : (s.setCC c).regs = s.regs := rfl
@[simp] theorem State.setCC_psw (s : State) (c : CC) : (s.setCC c).psw = { s.psw with cc := c } := rfl
@[simp] theorem State.setCC_mem (s : State) (c : CC) : (s.setCC c).mem = s.mem := rfl
@[simp] theorem State.setCC_parityBad (s : State) (c : CC) : (s.setCC c).parityBad = s.parityBad := rfl
@[simp] theorem State.setCC_protect (s : State) (c : CC) : (s.setCC c).protect = s.protect := rfl
@[simp] theorem State.setCC_enabled (s : State) (c : CC) : (s.setCC c).enabled = s.enabled := rfl
@[simp] theorem State.setCC_request (s : State) (c : CC) : (s.setCC c).request = s.request := rfl
@[simp] theorem State.setCC_active (s : State) (c : CC) : (s.setCC c).active = s.active := rfl
@[simp] theorem State.setCC_shield (s : State) (c : CC) : (s.setCC c).shield = s.shield := rfl
@[simp] theorem State.setCC_semi (s : State) (c : CC) : (s.setCC c).semi = s.semi := rfl
@[simp] theorem State.setCC_keyswitchPending (s : State) (c : CC) : (s.setCC c).keyswitchPending = s.keyswitchPending := rfl
@[simp] theorem State.setCC_keyswitch (s : State) (c : CC) : (s.setCC c).keyswitch = s.keyswitch := rfl
@[simp] theorem State.setCC_keylock (s : State) (c : CC) : (s.setCC c).keylock = s.keylock := rfl
@[simp] theorem State.setCC_controlSwitches (s : State) (c : CC) : (s.setCC c).controlSwitches = s.controlSwitches := rfl
@[simp] theorem State.setCC_run (s : State) (c : CC) : (s.setCC c).run = s.run := rfl
@[simp] theorem State.setCC_errorIndicator (s : State) (c : CC) : (s.setCC c).errorIndicator = s.errorIndicator := rfl
@[simp] theorem State.setCC_intervalTimer (s : State) (c : CC) : (s.setCC c).intervalTimer = s.intervalTimer := rfl
@[simp] theorem State.setCC_channels (s : State) (c : CC) : (s.setCC c).channels = s.channels := rfl
@[simp] theorem State.setCC_hung (s : State) (c : CC) : (s.setCC c).hung = s.hung := rfl
@[simp] theorem State.setCC_cfg (s : State) (c : CC) : (s.setCC c).cfg = s.cfg := rfl
@[simp] theorem State.setCC_inputs (s : State) (c : CC) : (s.setCC c).inputs = s.inputs := rfl
@[simp] theorem State.setCC_within (s : State) (c : CC) : (s.setCC c).within = s.within := rfl
@[simp] theorem State.setCC_draws (s : State) (c : CC) : (s.setCC c).draws = s.draws := rfl

@[simp] theorem State.advance_regs (s : State) (len : BitVec 18) : (s.advance len).regs = s.regs := rfl
@[simp] theorem State.advance_psw (s : State) (len : BitVec 18) : (s.advance len).psw = { s.psw with pc := s.psw.pc + len } := rfl
@[simp] theorem State.advance_mem (s : State) (len : BitVec 18) : (s.advance len).mem = s.mem := rfl
@[simp] theorem State.advance_parityBad (s : State) (len : BitVec 18) : (s.advance len).parityBad = s.parityBad := rfl
@[simp] theorem State.advance_protect (s : State) (len : BitVec 18) : (s.advance len).protect = s.protect := rfl
@[simp] theorem State.advance_enabled (s : State) (len : BitVec 18) : (s.advance len).enabled = s.enabled := rfl
@[simp] theorem State.advance_request (s : State) (len : BitVec 18) : (s.advance len).request = s.request := rfl
@[simp] theorem State.advance_active (s : State) (len : BitVec 18) : (s.advance len).active = s.active := rfl
@[simp] theorem State.advance_shield (s : State) (len : BitVec 18) : (s.advance len).shield = s.shield := rfl
@[simp] theorem State.advance_semi (s : State) (len : BitVec 18) : (s.advance len).semi = s.semi := rfl
@[simp] theorem State.advance_keyswitchPending (s : State) (len : BitVec 18) : (s.advance len).keyswitchPending = s.keyswitchPending := rfl
@[simp] theorem State.advance_keyswitch (s : State) (len : BitVec 18) : (s.advance len).keyswitch = s.keyswitch := rfl
@[simp] theorem State.advance_keylock (s : State) (len : BitVec 18) : (s.advance len).keylock = s.keylock := rfl
@[simp] theorem State.advance_controlSwitches (s : State) (len : BitVec 18) : (s.advance len).controlSwitches = s.controlSwitches := rfl
@[simp] theorem State.advance_run (s : State) (len : BitVec 18) : (s.advance len).run = s.run := rfl
@[simp] theorem State.advance_errorIndicator (s : State) (len : BitVec 18) : (s.advance len).errorIndicator = s.errorIndicator := rfl
@[simp] theorem State.advance_intervalTimer (s : State) (len : BitVec 18) : (s.advance len).intervalTimer = s.intervalTimer := rfl
@[simp] theorem State.advance_channels (s : State) (len : BitVec 18) : (s.advance len).channels = s.channels := rfl
@[simp] theorem State.advance_hung (s : State) (len : BitVec 18) : (s.advance len).hung = s.hung := rfl
@[simp] theorem State.advance_cfg (s : State) (len : BitVec 18) : (s.advance len).cfg = s.cfg := rfl
@[simp] theorem State.advance_inputs (s : State) (len : BitVec 18) : (s.advance len).inputs = s.inputs := rfl
@[simp] theorem State.advance_within (s : State) (len : BitVec 18) : (s.advance len).within = s.within := rfl
@[simp] theorem State.advance_draws (s : State) (len : BitVec 18) : (s.advance len).draws = s.draws := rfl

@[simp] theorem State.requestLevel_regs (s : State) (n : Level) : (s.requestLevel n).regs = s.regs := rfl
@[simp] theorem State.requestLevel_psw (s : State) (n : Level) : (s.requestLevel n).psw = s.psw := rfl
@[simp] theorem State.requestLevel_mem (s : State) (n : Level) : (s.requestLevel n).mem = s.mem := rfl
@[simp] theorem State.requestLevel_parityBad (s : State) (n : Level) : (s.requestLevel n).parityBad = s.parityBad := rfl
@[simp] theorem State.requestLevel_protect (s : State) (n : Level) : (s.requestLevel n).protect = s.protect := rfl
@[simp] theorem State.requestLevel_enabled (s : State) (n : Level) : (s.requestLevel n).enabled = s.enabled := rfl
@[simp] theorem State.requestLevel_request (s : State) (n : Level) : (s.requestLevel n).request = setLevel s.request n true := rfl
@[simp] theorem State.requestLevel_active (s : State) (n : Level) : (s.requestLevel n).active = s.active := rfl
@[simp] theorem State.requestLevel_shield (s : State) (n : Level) : (s.requestLevel n).shield = s.shield := rfl
@[simp] theorem State.requestLevel_semi (s : State) (n : Level) : (s.requestLevel n).semi = s.semi := rfl
@[simp] theorem State.requestLevel_keyswitchPending (s : State) (n : Level) : (s.requestLevel n).keyswitchPending = s.keyswitchPending := rfl
@[simp] theorem State.requestLevel_keyswitch (s : State) (n : Level) : (s.requestLevel n).keyswitch = s.keyswitch := rfl
@[simp] theorem State.requestLevel_keylock (s : State) (n : Level) : (s.requestLevel n).keylock = s.keylock := rfl
@[simp] theorem State.requestLevel_controlSwitches (s : State) (n : Level) : (s.requestLevel n).controlSwitches = s.controlSwitches := rfl
@[simp] theorem State.requestLevel_run (s : State) (n : Level) : (s.requestLevel n).run = s.run := rfl
@[simp] theorem State.requestLevel_errorIndicator (s : State) (n : Level) : (s.requestLevel n).errorIndicator = s.errorIndicator := rfl
@[simp] theorem State.requestLevel_intervalTimer (s : State) (n : Level) : (s.requestLevel n).intervalTimer = s.intervalTimer := rfl
@[simp] theorem State.requestLevel_channels (s : State) (n : Level) : (s.requestLevel n).channels = s.channels := rfl
@[simp] theorem State.requestLevel_hung (s : State) (n : Level) : (s.requestLevel n).hung = s.hung := rfl
@[simp] theorem State.requestLevel_cfg (s : State) (n : Level) : (s.requestLevel n).cfg = s.cfg := rfl
@[simp] theorem State.requestLevel_inputs (s : State) (n : Level) : (s.requestLevel n).inputs = s.inputs := rfl
@[simp] theorem State.requestLevel_within (s : State) (n : Level) : (s.requestLevel n).within = s.within := rfl
@[simp] theorem State.requestLevel_draws (s : State) (n : Level) : (s.requestLevel n).draws = s.draws := rfl

@[simp] theorem State.drawn_regs (s : State) : (s.drawn).regs = s.regs := rfl
@[simp] theorem State.drawn_psw (s : State) : (s.drawn).psw = s.psw := rfl
@[simp] theorem State.drawn_mem (s : State) : (s.drawn).mem = s.mem := rfl
@[simp] theorem State.drawn_parityBad (s : State) : (s.drawn).parityBad = s.parityBad := rfl
@[simp] theorem State.drawn_protect (s : State) : (s.drawn).protect = s.protect := rfl
@[simp] theorem State.drawn_enabled (s : State) : (s.drawn).enabled = s.enabled := rfl
@[simp] theorem State.drawn_request (s : State) : (s.drawn).request = s.request := rfl
@[simp] theorem State.drawn_active (s : State) : (s.drawn).active = s.active := rfl
@[simp] theorem State.drawn_shield (s : State) : (s.drawn).shield = s.shield := rfl
@[simp] theorem State.drawn_semi (s : State) : (s.drawn).semi = s.semi := rfl
@[simp] theorem State.drawn_keyswitchPending (s : State) : (s.drawn).keyswitchPending = s.keyswitchPending := rfl
@[simp] theorem State.drawn_keyswitch (s : State) : (s.drawn).keyswitch = s.keyswitch := rfl
@[simp] theorem State.drawn_keylock (s : State) : (s.drawn).keylock = s.keylock := rfl
@[simp] theorem State.drawn_controlSwitches (s : State) : (s.drawn).controlSwitches = s.controlSwitches := rfl
@[simp] theorem State.drawn_run (s : State) : (s.drawn).run = s.run := rfl
@[simp] theorem State.drawn_errorIndicator (s : State) : (s.drawn).errorIndicator = s.errorIndicator := rfl
@[simp] theorem State.drawn_intervalTimer (s : State) : (s.drawn).intervalTimer = s.intervalTimer := rfl
@[simp] theorem State.drawn_channels (s : State) : (s.drawn).channels = s.channels := rfl
@[simp] theorem State.drawn_hung (s : State) : (s.drawn).hung = s.hung := rfl
@[simp] theorem State.drawn_cfg (s : State) : (s.drawn).cfg = s.cfg := rfl
@[simp] theorem State.drawn_inputs (s : State) : (s.drawn).inputs = s.inputs := rfl
@[simp] theorem State.drawn_within (s : State) : (s.drawn).within = s.within := rfl
@[simp] theorem State.drawn_draws (s : State) : (s.drawn).draws = s.draws + 1 := rfl

@[simp] theorem State.setChannel_regs (s : State) (k : Fin 16) (c : Channel) : (s.setChannel k c).regs = s.regs := rfl
@[simp] theorem State.setChannel_psw (s : State) (k : Fin 16) (c : Channel) : (s.setChannel k c).psw = s.psw := rfl
@[simp] theorem State.setChannel_mem (s : State) (k : Fin 16) (c : Channel) : (s.setChannel k c).mem = s.mem := rfl
@[simp] theorem State.setChannel_parityBad (s : State) (k : Fin 16) (c : Channel) : (s.setChannel k c).parityBad = s.parityBad := rfl
@[simp] theorem State.setChannel_protect (s : State) (k : Fin 16) (c : Channel) : (s.setChannel k c).protect = s.protect := rfl
@[simp] theorem State.setChannel_enabled (s : State) (k : Fin 16) (c : Channel) : (s.setChannel k c).enabled = s.enabled := rfl
@[simp] theorem State.setChannel_request (s : State) (k : Fin 16) (c : Channel) : (s.setChannel k c).request = s.request := rfl
@[simp] theorem State.setChannel_active (s : State) (k : Fin 16) (c : Channel) : (s.setChannel k c).active = s.active := rfl
@[simp] theorem State.setChannel_shield (s : State) (k : Fin 16) (c : Channel) : (s.setChannel k c).shield = s.shield := rfl
@[simp] theorem State.setChannel_semi (s : State) (k : Fin 16) (c : Channel) : (s.setChannel k c).semi = s.semi := rfl
@[simp] theorem State.setChannel_keyswitchPending (s : State) (k : Fin 16) (c : Channel) : (s.setChannel k c).keyswitchPending = s.keyswitchPending := rfl
@[simp] theorem State.setChannel_keyswitch (s : State) (k : Fin 16) (c : Channel) : (s.setChannel k c).keyswitch = s.keyswitch := rfl
@[simp] theorem State.setChannel_keylock (s : State) (k : Fin 16) (c : Channel) : (s.setChannel k c).keylock = s.keylock := rfl
@[simp] theorem State.setChannel_controlSwitches (s : State) (k : Fin 16) (c : Channel) : (s.setChannel k c).controlSwitches = s.controlSwitches := rfl
@[simp] theorem State.setChannel_run (s : State) (k : Fin 16) (c : Channel) : (s.setChannel k c).run = s.run := rfl
@[simp] theorem State.setChannel_errorIndicator (s : State) (k : Fin 16) (c : Channel) : (s.setChannel k c).errorIndicator = s.errorIndicator := rfl
@[simp] theorem State.setChannel_intervalTimer (s : State) (k : Fin 16) (c : Channel) : (s.setChannel k c).intervalTimer = s.intervalTimer := rfl
@[simp] theorem State.setChannel_channels (s : State) (k : Fin 16) (c : Channel) : (s.setChannel k c).channels = s.channels.set k.val c k.isLt := rfl
@[simp] theorem State.setChannel_hung (s : State) (k : Fin 16) (c : Channel) : (s.setChannel k c).hung = s.hung := rfl
@[simp] theorem State.setChannel_cfg (s : State) (k : Fin 16) (c : Channel) : (s.setChannel k c).cfg = s.cfg := rfl
@[simp] theorem State.setChannel_inputs (s : State) (k : Fin 16) (c : Channel) : (s.setChannel k c).inputs = s.inputs := rfl
@[simp] theorem State.setChannel_within (s : State) (k : Fin 16) (c : Channel) : (s.setChannel k c).within = s.within := rfl
@[simp] theorem State.setChannel_draws (s : State) (k : Fin 16) (c : Channel) : (s.setChannel k c).draws = s.draws := rfl

@[simp] theorem State.spoilParity_regs (s : State) (w : WordAddr) : (s.spoilParity w).regs = s.regs := rfl
@[simp] theorem State.spoilParity_psw (s : State) (w : WordAddr) : (s.spoilParity w).psw = s.psw := rfl
@[simp] theorem State.spoilParity_mem (s : State) (w : WordAddr) : (s.spoilParity w).mem = s.mem := rfl
@[simp] theorem State.spoilParity_protect (s : State) (w : WordAddr) : (s.spoilParity w).protect = s.protect := rfl
@[simp] theorem State.spoilParity_enabled (s : State) (w : WordAddr) : (s.spoilParity w).enabled = s.enabled := rfl
@[simp] theorem State.spoilParity_request (s : State) (w : WordAddr) : (s.spoilParity w).request = s.request := rfl
@[simp] theorem State.spoilParity_active (s : State) (w : WordAddr) : (s.spoilParity w).active = s.active := rfl
@[simp] theorem State.spoilParity_shield (s : State) (w : WordAddr) : (s.spoilParity w).shield = s.shield := rfl
@[simp] theorem State.spoilParity_semi (s : State) (w : WordAddr) : (s.spoilParity w).semi = s.semi := rfl
@[simp] theorem State.spoilParity_keyswitchPending (s : State) (w : WordAddr) : (s.spoilParity w).keyswitchPending = s.keyswitchPending := rfl
@[simp] theorem State.spoilParity_keyswitch (s : State) (w : WordAddr) : (s.spoilParity w).keyswitch = s.keyswitch := rfl
@[simp] theorem State.spoilParity_keylock (s : State) (w : WordAddr) : (s.spoilParity w).keylock = s.keylock := rfl
@[simp] theorem State.spoilParity_controlSwitches (s : State) (w : WordAddr) : (s.spoilParity w).controlSwitches = s.controlSwitches := rfl
@[simp] theorem State.spoilParity_run (s : State) (w : WordAddr) : (s.spoilParity w).run = s.run := rfl
@[simp] theorem State.spoilParity_errorIndicator (s : State) (w : WordAddr) : (s.spoilParity w).errorIndicator = s.errorIndicator := rfl
@[simp] theorem State.spoilParity_intervalTimer (s : State) (w : WordAddr) : (s.spoilParity w).intervalTimer = s.intervalTimer := rfl
@[simp] theorem State.spoilParity_channels (s : State) (w : WordAddr) : (s.spoilParity w).channels = s.channels := rfl
@[simp] theorem State.spoilParity_hung (s : State) (w : WordAddr) : (s.spoilParity w).hung = s.hung := rfl
@[simp] theorem State.spoilParity_cfg (s : State) (w : WordAddr) : (s.spoilParity w).cfg = s.cfg := rfl
@[simp] theorem State.spoilParity_inputs (s : State) (w : WordAddr) : (s.spoilParity w).inputs = s.inputs := rfl
@[simp] theorem State.spoilParity_within (s : State) (w : WordAddr) : (s.spoilParity w).within = s.within := rfl
@[simp] theorem State.spoilParity_draws (s : State) (w : WordAddr) : (s.spoilParity w).draws = s.draws := rfl

@[simp] theorem begun_regs (s : State) : (begun s).regs = s.regs := rfl
@[simp] theorem begun_psw (s : State) : (begun s).psw = s.psw := rfl
@[simp] theorem begun_mem (s : State) : (begun s).mem = s.mem := rfl
@[simp] theorem begun_parityBad (s : State) : (begun s).parityBad = s.parityBad := rfl
@[simp] theorem begun_protect (s : State) : (begun s).protect = s.protect := rfl
@[simp] theorem begun_enabled (s : State) : (begun s).enabled = s.enabled := rfl
@[simp] theorem begun_request (s : State) : (begun s).request = s.request := rfl
@[simp] theorem begun_active (s : State) : (begun s).active = s.active := rfl
@[simp] theorem begun_shield (s : State) : (begun s).shield = false := rfl
@[simp] theorem begun_semi (s : State) : (begun s).semi = s.semi := rfl
@[simp] theorem begun_keyswitchPending (s : State) : (begun s).keyswitchPending = s.keyswitchPending := rfl
@[simp] theorem begun_keyswitch (s : State) : (begun s).keyswitch = s.keyswitch := rfl
@[simp] theorem begun_keylock (s : State) : (begun s).keylock = s.keylock := rfl
@[simp] theorem begun_controlSwitches (s : State) : (begun s).controlSwitches = s.controlSwitches := rfl
@[simp] theorem begun_run (s : State) : (begun s).run = s.run := rfl
@[simp] theorem begun_errorIndicator (s : State) : (begun s).errorIndicator = s.errorIndicator := rfl
@[simp] theorem begun_intervalTimer (s : State) : (begun s).intervalTimer = s.intervalTimer := rfl
@[simp] theorem begun_channels (s : State) : (begun s).channels = s.channels := rfl
@[simp] theorem begun_hung (s : State) : (begun s).hung = false := rfl
@[simp] theorem begun_cfg (s : State) : (begun s).cfg = s.cfg := rfl
@[simp] theorem begun_inputs (s : State) : (begun s).inputs = s.inputs := rfl
@[simp] theorem begun_within (s : State) : (begun s).within = s.within := rfl
@[simp] theorem begun_draws (s : State) : (begun s).draws = s.draws := rfl

@[simp] theorem State.setPc_pc (s : State) (pc : BitVec 18) : (s.setPc pc).psw.pc = pc := rfl

@[simp] theorem State.setCC_cc (s : State) (c : CC) : (s.setCC c).psw.cc = c := rfl

@[simp] theorem State.requestArithmetic_false (s : State) : s.requestArithmetic false = s := rfl

@[simp] theorem State.requestArithmetic_true (s : State) :
    s.requestArithmetic true = s.requestLevel 0x29#7 := rfl

end Sys2Proof.Machine
end

