-- ==== Sys2Proof/Laws/Memory.lean ====
section
/-!
SUPPORT. Read after write, and that every memory operation keeps the canonical form.
-/

namespace Sys2Proof.Machine

/-! ## The list of cells -/

theorem memGet_filter_same (m : List Host.Cell) (a : Nat) : memGet (m.filter fun c => c.1 != a) a = 0#8 := by
  induction m with
  | nil => rfl
  | cons c t ih =>
    by_cases h : c.1 = a
    · simp [h, ih]
    · simp [h, ih, memGet]

theorem memGet_filter_ne (m : List Host.Cell) (a b : Nat) (h : b ≠ a) :
    memGet (m.filter fun c => c.1 != a) b = memGet m b := by
  induction m with
  | nil => rfl
  | cons c t ih =>
    by_cases hc : c.1 = a
    · have : ¬ a = b := fun e => h e.symm
      simp [hc, ih, memGet, this]
    · by_cases hb : c.1 = b
      · simp [hb, h, memGet]
      · simp [hc, hb, ih, memGet]

theorem memGet_insert_ne (m : List Host.Cell) (a b : Nat) (v : Byte) (h : b ≠ a) :
    memGet (memInsert m a v) b = memGet m b := by
  have h' : ¬ a = b := fun e => h e.symm
  induction m with
  | nil => simp [memInsert, memGet, h']
  | cons c t ih =>
    by_cases hc : a < c.1
    · simp [memInsert, hc, memGet, h']
    · simp [memInsert, hc, memGet, ih]

theorem memGet_insert_same (m : List Host.Cell) (a : Nat) (v : Byte) (h : ∀ c ∈ m, c.1 ≠ a) :
    memGet (memInsert m a v) a = v := by
  induction m with
  | nil => simp [memInsert, memGet]
  | cons c t ih =>
    have hc : c.1 ≠ a := h c (by simp)
    by_cases ha : a < c.1
    · simp [memInsert, ha, memGet]
    · simp [memInsert, ha, memGet, hc, ih (fun d hd => h d (by simp [hd]))]

/-- A byte reads as it was written. -/
@[simp] theorem memGet_put_same (m : List Host.Cell) (a : Nat) (b : Byte) : memGet (memPut m a b) a = b := by
  unfold memPut
  by_cases h : b = 0#8
  · simp [h, memGet_filter_same]
  · simp only [h, if_false]
    exact memGet_insert_same _ _ _ (by simp)

/-- Another byte reads as before. -/
theorem memGet_put_ne (m : List Host.Cell) (a c : Nat) (b : Byte) (h : c ≠ a) :
    memGet (memPut m a b) c = memGet m c := by
  unfold memPut
  by_cases hb : b = 0#8
  · simp [hb, memGet_filter_ne _ _ _ h]
  · simp [hb, memGet_insert_ne _ _ _ _ h, memGet_filter_ne _ _ _ h]

theorem memWfFrom_mono (m : List Host.Cell) (lo lo' : Nat) (h : lo' ≤ lo) (hw : memWfFrom lo m = true) :
    memWfFrom lo' m = true := by
  cases m with
  | nil => rfl
  | cons c t =>
    simp only [memWfFrom, Bool.and_eq_true, decide_eq_true_eq] at hw ⊢
    exact ⟨⟨⟨by omega, hw.1.1.2⟩, hw.1.2⟩, hw.2⟩

theorem memWfFrom_filter (p : Host.Cell → Bool) (m : List Host.Cell) (lo : Nat) (hw : memWfFrom lo m = true) :
    memWfFrom lo (m.filter p) = true := by
  induction m generalizing lo with
  | nil => rfl
  | cons c t ih =>
    simp only [memWfFrom, Bool.and_eq_true, decide_eq_true_eq] at hw
    by_cases hp : p c = true
    · simp only [List.filter_cons, hp, if_true, memWfFrom, Bool.and_eq_true, decide_eq_true_eq]
      exact ⟨hw.1, ih _ hw.2⟩
    · simp only [List.filter_cons, hp]
      exact memWfFrom_mono _ _ _ (by omega) (ih _ hw.2)

theorem memWfFrom_insert (m : List Host.Cell) (lo a : Nat) (b : Byte) (hlo : lo ≤ a) (ha : a < 2 ^ 19) (hb : b ≠ 0#8)
    (hw : memWfFrom lo m = true) (hn : ∀ c ∈ m, c.1 ≠ a) : memWfFrom lo (memInsert m a b) = true := by
  induction m generalizing lo with
  | nil => simp [memInsert, memWfFrom, hlo, hb]; omega
  | cons c t ih =>
    simp only [memWfFrom, Bool.and_eq_true, decide_eq_true_eq] at hw
    have hc : c.1 ≠ a := hn c (by simp)
    by_cases h : a < c.1
    · simp only [memInsert, h, if_true, memWfFrom, Bool.and_eq_true, decide_eq_true_eq]
      exact ⟨⟨⟨hlo, ha⟩, by simpa using hb⟩, ⟨⟨by omega, hw.1.1.2⟩, hw.1.2⟩, hw.2⟩
    · simp only [memInsert, h, if_false, memWfFrom, Bool.and_eq_true, decide_eq_true_eq]
      exact ⟨hw.1, ih (c.1 + 1) (by omega) hw.2 (fun d hd => hn d (by simp [hd]))⟩

/-- A write keeps the canonical form. -/
theorem Memory.wf_put (m : List Host.Cell) (a : Nat) (b : Byte) (ha : a < 2 ^ 19) (hw : Memory.wf m = true) :
    Memory.wf (memPut m a b) = true := by
  unfold memPut
  have hf := memWfFrom_filter (fun c => c.1 != a) m 0 hw
  by_cases hb : b = 0#8
  · simpa [hb, Memory.wf] using hf
  · simpa [hb, Memory.wf] using memWfFrom_insert _ 0 a b (by omega) ha hb hf (by simp)

theorem parityWfFrom_mono (l : List Nat) (lo lo' : Nat) (h : lo' ≤ lo) (hw : parityWfFrom lo l = true) :
    parityWfFrom lo' l = true := by
  cases l with
  | nil => rfl
  | cons k t =>
    simp only [parityWfFrom, Bool.and_eq_true, decide_eq_true_eq] at hw ⊢
    exact ⟨⟨by omega, hw.1.2⟩, hw.2⟩

theorem parityWfFrom_filter (p : Nat → Bool) (l : List Nat) (lo : Nat) (hw : parityWfFrom lo l = true) :
    parityWfFrom lo (l.filter p) = true := by
  induction l generalizing lo with
  | nil => rfl
  | cons k t ih =>
    simp only [parityWfFrom, Bool.and_eq_true, decide_eq_true_eq] at hw
    by_cases hp : p k = true
    · simp only [List.filter_cons, hp, if_true, parityWfFrom, Bool.and_eq_true, decide_eq_true_eq]
      exact ⟨hw.1, ih _ hw.2⟩
    · simp only [List.filter_cons, hp]
      exact parityWfFrom_mono _ _ _ (by omega) (ih _ hw.2)

theorem parityWfFrom_insert (l : List Nat) (lo w : Nat) (hlo : lo ≤ w) (hb : w < 2 ^ 17)
    (hw : parityWfFrom lo l = true) (hn : ∀ k ∈ l, k ≠ w) : parityWfFrom lo (natInsert l w) = true := by
  induction l generalizing lo with
  | nil => simp [natInsert, parityWfFrom, hlo]; omega
  | cons k t ih =>
    simp only [parityWfFrom, Bool.and_eq_true, decide_eq_true_eq] at hw
    have hk : k ≠ w := hn k (by simp)
    by_cases h : w < k
    · simp only [natInsert, h, if_true, parityWfFrom, Bool.and_eq_true, decide_eq_true_eq]
      exact ⟨⟨hlo, hb⟩, ⟨by omega, hw.1.2⟩, hw.2⟩
    · simp only [natInsert, h, if_false, parityWfFrom, Bool.and_eq_true, decide_eq_true_eq]
      exact ⟨hw.1, ih (k + 1) (by omega) hw.2 (fun j hj => hn j (by simp [hj]))⟩

/-! ## The operations of the state -/

theorem canonical_iff (s : State) :
    s.canonical = true ↔ Memory.wf s.mem = true ∧ parityWfFrom 0 s.parityBad = true := by
  simp [State.canonical]

@[simp] theorem byteAt_setByte_same (s : State) (a : Addr) (b : Byte) : (s.setByte a b).byteAt a = b := by
  simp [State.byteAt]

theorem byteAt_setByte_ne (s : State) (a c : Addr) (b : Byte) (h : c ≠ a) :
    (s.setByte a b).byteAt c = s.byteAt c := by
  simp only [State.byteAt, State.setByte_mem]
  exact memGet_put_ne _ _ _ _ (fun e => h (BitVec.eq_of_toNat_eq e))

theorem setByte_canonical (s : State) (a : Addr) (b : Byte) (h : s.canonical = true) :
    (s.setByte a b).canonical = true := by
  rw [canonical_iff] at h ⊢
  exact ⟨Memory.wf_put _ _ _ a.isLt h.1, h.2⟩

theorem Memory.wf_putWord (m : List Host.Cell) (w : WordAddr) (v : Word) (h : Memory.wf m = true) :
    Memory.wf (memPutWord m w v) = true :=
  Memory.wf_put _ _ _ (BitVec.isLt _) (Memory.wf_put _ _ _ (BitVec.isLt _)
    (Memory.wf_put _ _ _ (BitVec.isLt _) (Memory.wf_put _ _ _ (BitVec.isLt _) h)))

theorem cleanParity_wf (l : List Nat) (w : WordAddr) (h : parityWfFrom 0 l = true) :
    parityWfFrom 0 (cleanParity l w) = true := parityWfFrom_filter _ _ _ h

theorem setHalf_canonical (s : State) (a : Addr) (v : Half) (h : s.canonical = true) :
    (s.setHalf a v).canonical = true := by
  rw [canonical_iff] at h ⊢
  exact ⟨Memory.wf_put _ _ _ (BitVec.isLt _) (Memory.wf_put _ _ _ (BitVec.isLt _) h.1), h.2⟩

theorem setWord_canonical (s : State) (w : WordAddr) (v : Word) (h : s.canonical = true) :
    (s.setWord w v).canonical = true := by
  rw [canonical_iff] at h ⊢
  exact ⟨Memory.wf_putWord _ _ _ h.1, cleanParity_wf _ _ h.2⟩

theorem spoilParity_canonical (s : State) (w : WordAddr) (h : s.canonical = true) :
    (s.spoilParity w).canonical = true := by
  rw [canonical_iff] at h ⊢
  exact ⟨h.1, parityWfFrom_insert _ _ _ (by omega) w.isLt (cleanParity_wf _ _ h.2) (by simp [cleanParity])⟩

/-- The memory right after reset is in its canonical form. -/
theorem reset_canonical : State.reset.canonical = true := rfl

end Sys2Proof.Machine
end

