-- ==== Sys2Proof/Laws/Bus.lean ====
section
/-!
SUPPORT. What the memory bus can do between two memory cycles of the CP, once: it touches memory, its parity, the
channels and the service interrupt requests alone, and it takes no notice of the PSWR and the registers.
-/

namespace Sys2Proof.Machine

theorem BusOnly.refl (s : State) : BusOnly s s := rfl

theorem BusOnly.trans {s t u : State} (h : BusOnly s t) (k : BusOnly t u) : BusOnly s u := by
  unfold BusOnly at *
  rw [k, h]

theorem setChannel_bus (s : State) (k : Fin 16) (c : Channel) : BusOnly s (s.setChannel k c) := rfl

theorem setWord_bus (s : State) (w : WordAddr) (v : Word) : BusOnly s (s.setWord w v) := rfl

theorem signal_bus (s : State) (n : Level) : BusOnly s (s.signal n) := by
  unfold State.signal; split <;> rfl

theorem transferIn_bus (s : State) (t d : Word) : BusOnly s (s.transferIn t d) := by
  unfold State.transferIn; dsimp only; split <;> rfl

theorem moveDatum_bus (s : State) (k : Fin 16) (c : Channel) (dir : Direction) (t : Word) :
    BusOnly s (s.moveDatum k c dir t) := by
  unfold State.moveDatum
  cases dir <;> dsimp only <;> split
  · exact (transferIn_bus s t c.data).trans (setChannel_bus _ _ _)
  all_goals exact setChannel_bus _ _ _

theorem endOfBlock_bus (s : State) (k : Fin 16) : BusOnly s (s.endOfBlock k) := by
  unfold State.endOfBlock
  dsimp only
  split
  · exact (setChannel_bus _ _ _).trans (signal_bus _ _)
  · exact setChannel_bus _ _ _

theorem dataCycle_bus (s : State) (k : Fin 16) (dir : Direction) (t : Word) : BusOnly s (dataCycle s k dir t) := by
  unfold dataCycle
  dsimp only
  have h := moveDatum_bus s k { s.channels[k] with transfer := none } dir t
  split
  · exact h.trans (endOfBlock_bus _ _)
  · split <;> exact h.trans (setChannel_bus _ _ _)

theorem controlCycle_bus (s : State) (k : Fin 16) (dir : Direction) : BusOnly s (controlCycle s k dir) := by
  unfold controlCycle; dsimp only; split <;> rfl

theorem writeBackCycle_bus (s : State) (k : Fin 16) (t : Word) : BusOnly s (writeBackCycle s k t) := by
  unfold writeBackCycle; dsimp only; split <;> rfl

theorem transferCycle_bus (s : State) (k : Fin 16) : BusOnly s (transferCycle s k) := by
  unfold transferCycle
  split
  · exact .refl s
  · split
    · exact dataCycle_bus _ _ _ _
    · exact controlCycle_bus _ _ _
  · exact dataCycle_bus _ _ _ _
  · exact writeBackCycle_bus _ _ _

theorem applyBus_bus (s : State) (b : BusEvent) : BusOnly s (applyBus s b) := by
  cases b <;> simp only [applyBus]
  · unfold State.askTransfer; split <;> rfl
  · unfold State.askTransfer; split <;> rfl
  · split
    · exact .refl s
    · exact transferCycle_bus _ _
  · split
    · exact .refl s
    · unfold State.snapshotWord; split
      · exact .refl s
      · split <;> rfl

theorem busEvents_bus (es : List BusEvent) (s : State) : BusOnly s (es.foldl applyBus s) := by
  induction es generalizing s with
  | nil => exact .refl s
  | cons e t ih => exact (applyBus_bus s e).trans (ih _)

/-- What comes before a memory cycle of the CP. -/
theorem tick_bus (s : State) : BusOnly s s.tick := by
  unfold State.tick
  split
  · exact .refl s
  · rename_i es rest _
    exact BusOnly.trans (t := { s with within := rest }) rfl (busEvents_bus es _)

/-- Nothing comes before a memory cycle for which nothing is listed. -/
theorem tick_quiet (s : State) (h : s.within = []) : s.tick = s := by simp [State.tick, h]

/-! ## The bus, the PSWR and the registers -/

/-- The state with another PSWR and other registers. -/
def State.withCpu (s : State) (p : Psw × Vector Word 8) : State := { s with psw := p.1, regs := p.2 }

theorem signal_cpu (s : State) (n : Level) (p : Psw × Vector Word 8) : (s.withCpu p).signal n = (s.signal n).withCpu p := by
  have h : (s.withCpu p).levelPresent n = s.levelPresent n := rfl
  unfold State.signal; rw [h]; split <;> rfl

theorem transferIn_cpu (s : State) (t d : Word) (p : Psw × Vector Word 8) :
    (s.withCpu p).transferIn t d = (s.transferIn t d).withCpu p := by
  unfold State.transferIn; dsimp only; split <;> rfl

theorem moveDatum_cpu (s : State) (k : Fin 16) (c : Channel) (dir : Direction) (t : Word) (p : Psw × Vector Word 8) :
    (s.withCpu p).moveDatum k c dir t = (s.moveDatum k c dir t).withCpu p := by
  have hw : ∀ w, (s.withCpu p).ioWritable w = s.ioWritable w := fun _ => rfl
  have hp : ∀ w, (s.withCpu p).ioPresent w = s.ioPresent w := fun _ => rfl
  unfold State.moveDatum
  cases dir <;> simp only [hw, hp, transferIn_cpu] <;> split <;> rfl

theorem endOfBlock_cpu (s : State) (k : Fin 16) (p : Psw × Vector Word 8) :
    (s.withCpu p).endOfBlock k = (s.endOfBlock k).withCpu p := by
  have hc : (s.withCpu p).channels = s.channels := rfl
  unfold State.endOfBlock
  dsimp only
  rw [hc]
  split
  · exact signal_cpu (s.setChannel k (if s.cfg.channels[k].highPriority then s.loadControlWord k s.channels[k]
      else s.channels[k])) _ p
  · rfl

theorem dataCycle_cpu (s : State) (k : Fin 16) (dir : Direction) (t : Word) (p : Psw × Vector Word 8) :
    dataCycle (s.withCpu p) k dir t = (dataCycle s k dir t).withCpu p := by
  have hc : (s.withCpu p).channels = s.channels := rfl
  have hf : (s.withCpu p).cfg = s.cfg := rfl
  unfold dataCycle
  dsimp only
  rw [hc, hf, moveDatum_cpu]
  split
  · exact endOfBlock_cpu _ _ p
  · split <;> rfl

theorem transferCycle_cpu (s : State) (k : Fin 16) (p : Psw × Vector Word 8) :
    transferCycle (s.withCpu p) k = (transferCycle s k).withCpu p := by
  have hc : (s.withCpu p).channels = s.channels := rfl
  have hf : (s.withCpu p).cfg = s.cfg := rfl
  have hp : ∀ w, (s.withCpu p).ioPresent w = s.ioPresent w := fun _ => rfl
  have hw : ∀ w, (s.withCpu p).ioWritable w = s.ioWritable w := fun _ => rfl
  unfold transferCycle
  rw [hc, hf]
  split
  · rfl
  · split
    · exact dataCycle_cpu _ _ _ _ p
    · unfold controlCycle; dsimp only; rw [hp]; split <;> rfl
  · exact dataCycle_cpu _ _ _ _ p
  · unfold writeBackCycle; dsimp only; rw [hw]; split <;> rfl

theorem askTransfer_cpu (s : State) (k : Fin 16) (dir : Direction) (d : Word) (p : Psw × Vector Word 8) :
    (s.withCpu p).askTransfer k dir d = (s.askTransfer k dir d).withCpu p := by
  have h1 : (s.withCpu p).channelInstalled k = s.channelInstalled k := rfl
  have h2 : (s.withCpu p).channels = s.channels := rfl
  unfold State.askTransfer; rw [h1, h2]; split <;> rfl

theorem snapshotWord_cpu (s : State) (k : Fin 16) (wa : WordAddr) (v : Word) (p : Psw × Vector Word 8) :
    (s.withCpu p).snapshotWord k wa v = (s.snapshotWord k wa v).withCpu p := by
  have h1 : (s.withCpu p).channelInstalled k = s.channelInstalled k := rfl
  have h2 : (s.withCpu p).ioWritable wa = s.ioWritable wa := rfl
  unfold State.snapshotWord; rw [h1, h2]
  split
  · rfl
  · split <;> rfl

theorem applyBus_cpu (s : State) (b : BusEvent) (p : Psw × Vector Word 8) : applyBus (s.withCpu p) b = (applyBus s b).withCpu p := by
  have h1 : (s.withCpu p).stopped = s.stopped := rfl
  have h2 : ∀ k, (s.withCpu p).mayCycle k = s.mayCycle k := fun _ => rfl
  have h3 : (s.withCpu p).channels = s.channels := rfl
  cases b <;> simp only [applyBus]
  · exact askTransfer_cpu _ _ _ _ p
  · rw [h3]; exact askTransfer_cpu _ _ _ _ p
  · rw [h1, h2]; split
    · rfl
    · exact transferCycle_cpu _ _ p
  · rw [h1]; split
    · rfl
    · exact snapshotWord_cpu _ _ _ _ p

theorem busEvents_cpu (es : List BusEvent) (s : State) (p : Psw × Vector Word 8) :
    es.foldl applyBus (s.withCpu p) = (es.foldl applyBus s).withCpu p := by
  induction es generalizing s with
  | nil => rfl
  | cons e t ih => simp only [List.foldl_cons, applyBus_cpu, ih]

/-- What the bus does does not depend on the PSWR and the registers. -/
theorem tick_withCpu (s : State) (p : Psw × Vector Word 8) : (s.withCpu p).tick = s.tick.withCpu p := by
  have h : (s.withCpu p).within = s.within := rfl
  unfold State.tick; rw [h]; split
  · rfl
  · rename_i es rest _
    exact busEvents_cpu es { s with within := rest } p

@[simp] theorem tick_regs (s : State) : s.tick.regs = s.regs := by rw [tick_bus s]
@[simp] theorem tick_psw (s : State) : s.tick.psw = s.psw := by rw [tick_bus s]
@[simp] theorem tick_protect (s : State) : s.tick.protect = s.protect := by rw [tick_bus s]
@[simp] theorem tick_enabled (s : State) : s.tick.enabled = s.enabled := by rw [tick_bus s]
@[simp] theorem tick_active (s : State) : s.tick.active = s.active := by rw [tick_bus s]
@[simp] theorem tick_shield (s : State) : s.tick.shield = s.shield := by rw [tick_bus s]
@[simp] theorem tick_semi (s : State) : s.tick.semi = s.semi := by rw [tick_bus s]
@[simp] theorem tick_keyswitchPending (s : State) : s.tick.keyswitchPending = s.keyswitchPending := by rw [tick_bus s]
@[simp] theorem tick_keyswitch (s : State) : s.tick.keyswitch = s.keyswitch := by rw [tick_bus s]
@[simp] theorem tick_keylock (s : State) : s.tick.keylock = s.keylock := by rw [tick_bus s]
@[simp] theorem tick_controlSwitches (s : State) : s.tick.controlSwitches = s.controlSwitches := by rw [tick_bus s]
@[simp] theorem tick_run (s : State) : s.tick.run = s.run := by rw [tick_bus s]
@[simp] theorem tick_errorIndicator (s : State) : s.tick.errorIndicator = s.errorIndicator := by rw [tick_bus s]
@[simp] theorem tick_intervalTimer (s : State) : s.tick.intervalTimer = s.intervalTimer := by rw [tick_bus s]
@[simp] theorem tick_hung (s : State) : s.tick.hung = s.hung := by rw [tick_bus s]
@[simp] theorem tick_cfg (s : State) : s.tick.cfg = s.cfg := by rw [tick_bus s]
@[simp] theorem tick_inputs (s : State) : s.tick.inputs = s.inputs := by rw [tick_bus s]
@[simp] theorem tick_draws (s : State) : s.tick.draws = s.draws := by rw [tick_bus s]

@[simp] theorem tick_advance (s : State) (len : BitVec 18) : (s.advance len).tick = s.tick.advance len := by
  have h := tick_withCpu s ({ s.psw with pc := s.psw.pc + len }, s.regs)
  rw [State.withCpu, State.withCpu] at h; simpa [State.advance, State.setPc, tick_regs] using h

@[simp] theorem tick_setPc (s : State) (pc : BitVec 18) : (s.setPc pc).tick = s.tick.setPc pc := by
  have h := tick_withCpu s ({ s.psw with pc := pc }, s.regs)
  simpa [State.withCpu, State.setPc] using h

@[simp] theorem tick_setCC (s : State) (c : CC) : (s.setCC c).tick = s.tick.setCC c := by
  have h := tick_withCpu s ({ s.psw with cc := c }, s.regs)
  simpa [State.withCpu, State.setCC] using h

@[simp] theorem tick_setReg (s : State) (r : Reg) (v : Word) : (s.setReg r v).tick = s.tick.setReg r v := by
  have h := tick_withCpu s (s.psw, s.regs.set r.toNat v r.isLt)
  simpa [State.withCpu, State.setReg] using h

@[simp] theorem tick_setPair (s : State) (r : Reg) (v : DWord) : (s.setPair r v).tick = s.tick.setPair r v := by
  have h := tick_withCpu s (s.psw, (s.setPair r v).regs)
  simpa [State.withCpu, State.setPair] using h

/-- Without anything listed an operand is read as it stands in memory. -/
theorem seen_quiet (s : State) (e : Ea) (h : s.within = []) :
    s.seen e = s.datum e ∧ s.afterRead e = s := by
  unfold State.seen State.afterRead State.datum State.doubleAt
  rw [tick_quiet s h, tick_quiet s h]
  cases e.format <;> simp

/-! ## The bus and the canonical form -/

theorem setChannel_canonical (s : State) (k : Fin 16) (c : Channel) (h : s.canonical = true) :
    (s.setChannel k c).canonical = true := h

theorem signal_canonical (s : State) (n : Level) (h : s.canonical = true) : (s.signal n).canonical = true := by
  unfold State.signal; split <;> exact h

theorem transferIn_canonical (s : State) (t d : Word) (h : s.canonical = true) : (s.transferIn t d).canonical = true := by
  unfold State.transferIn; dsimp only
  split
  · exact setByte_canonical _ _ _ h
  · exact setHalf_canonical _ _ _ h
  · exact setWord_canonical _ _ _ h
  · exact setWord_canonical _ _ _ h

theorem moveDatum_canonical (s : State) (k : Fin 16) (c : Channel) (dir : Direction) (t : Word)
    (h : s.canonical = true) : (s.moveDatum k c dir t).canonical = true := by
  unfold State.moveDatum
  cases dir <;> dsimp only <;> split
  · exact setChannel_canonical _ _ _ (transferIn_canonical _ _ _ h)
  all_goals exact h

theorem endOfBlock_canonical (s : State) (k : Fin 16) (h : s.canonical = true) : (s.endOfBlock k).canonical = true := by
  unfold State.endOfBlock; dsimp only
  split
  · exact signal_canonical _ _ h
  · exact h

theorem dataCycle_canonical (s : State) (k : Fin 16) (dir : Direction) (t : Word) (h : s.canonical = true) :
    (dataCycle s k dir t).canonical = true := by
  unfold dataCycle; dsimp only
  have h1 := moveDatum_canonical s k { s.channels[k] with transfer := none } dir t h
  split
  · exact endOfBlock_canonical _ _ h1
  · split <;> exact h1

theorem transferCycle_canonical (s : State) (k : Fin 16) (h : s.canonical = true) :
    (transferCycle s k).canonical = true := by
  unfold transferCycle
  split
  · exact h
  · split
    · exact dataCycle_canonical _ _ _ _ h
    · unfold controlCycle; dsimp only; split <;> exact h
  · exact dataCycle_canonical _ _ _ _ h
  · unfold writeBackCycle; dsimp only
    split
    · exact setWord_canonical _ _ _ h
    · exact h

theorem applyBus_canonical (s : State) (b : BusEvent) (h : s.canonical = true) : (applyBus s b).canonical = true := by
  cases b <;> simp only [applyBus]
  · unfold State.askTransfer; split <;> exact h
  · unfold State.askTransfer; split <;> exact h
  · split
    · exact h
    · exact transferCycle_canonical _ _ h
  · split
    · exact h
    · unfold State.snapshotWord; split
      · exact h
      · split
        · exact setWord_canonical _ _ _ h
        · exact h

theorem busEvents_canonical (es : List BusEvent) (s : State) (h : s.canonical = true) :
    (es.foldl applyBus s).canonical = true := by
  induction es generalizing s with
  | nil => exact h
  | cons e t ih => exact ih _ (applyBus_canonical _ _ h)

/-- What comes before a memory cycle of the CP keeps the canonical form. -/
theorem tick_canonical (s : State) (h : s.canonical = true) : s.tick.canonical = true := by
  unfold State.tick
  split
  · exact h
  · exact busEvents_canonical _ _ h

theorem processTransfer_canonical (s : State) (k : Fin 16) (h : s.canonical = true) :
    (processTransfer s k).canonical = true :=
  transferCycle_canonical _ _ (transferCycle_canonical _ _ (transferCycle_canonical _ _ h))

theorem processTransfer_bus (s : State) (k : Fin 16) : BusOnly s (processTransfer s k) :=
  ((transferCycle_bus s k).trans (transferCycle_bus _ k)).trans (transferCycle_bus _ k)

theorem processTransfers_canonical (ks : List (Fin 16)) (s : State) (h : s.canonical = true) :
    (ks.foldl processTransfer s).canonical = true := by
  induction ks generalizing s with
  | nil => exact h
  | cons k t ih => exact ih _ (processTransfer_canonical _ _ h)

theorem processTransfers_bus (ks : List (Fin 16)) (s : State) : BusOnly s (ks.foldl processTransfer s) := by
  induction ks generalizing s with
  | nil => exact .refl s
  | cons k t ih => exact (processTransfer_bus s k).trans (ih _)

/-- The AIOS keeps the canonical form. -/
theorem aios_canonical (s : State) (h : s.canonical = true) : (aios s).canonical = true := by
  unfold aios
  split
  · exact processTransfers_canonical _ _ h
  · exact h

/-- The AIOS touches what the bus touches. -/
theorem aios_bus (s : State) : BusOnly s (aios s) := by
  unfold aios
  split
  · exact processTransfers_bus _ _
  · exact .refl s

/-- The cycles that put an operand into memory keep the canonical form. -/
theorem write_canonical (s : State) (e : Ea) (d : Datum) (h : s.canonical = true) : (s.write e d).canonical = true := by
  have ht := tick_canonical s h
  cases d with
  | byte b => exact setByte_canonical _ _ _ ht
  | half v => exact setHalf_canonical _ _ _ ht
  | word v => exact setWord_canonical _ _ _ ht
  | double v => exact setWord_canonical _ _ _ (tick_canonical _ (setWord_canonical _ _ _ ht))

end Sys2Proof.Machine
end

