-- ==== Sys2Proof/Laws/Ops.lean ====
section
/-!
SUPPORT. For each shared operation, once, everything it can do: what an answer of it says about the state.
-/

namespace Sys2Proof.Machine

/-! ## Registers and the PSWR -/

@[simp] theorem reg_setReg_same (s : State) (r : Reg) (v : Word) : (s.setReg r v).reg r = v := by
  simp [State.reg]

theorem reg_setReg_ne (s : State) (r q : Reg) (v : Word) (h : q ≠ r) : (s.setReg r v).reg q = s.reg q := by
  simp only [State.reg, State.setReg_regs]
  exact Vector.getElem_set_ne r.isLt q.isLt (fun e => h (BitVec.eq_of_toNat_eq e.symm))

theorem pairEven_ne_pairOdd (r : Reg) : pairEven r ≠ pairOdd r := by revert r; decide

theorem setPair_eq (s : State) (r : Reg) (v : DWord) :
    s.setPair r v = (s.setReg (pairOdd r) (v.extractLsb' 0 32)).setReg (pairEven r) (v.extractLsb' 32 32) := rfl

@[simp] theorem reg_setPair_even (s : State) (r : Reg) (v : DWord) :
    (s.setPair r v).reg (pairEven r) = v.extractLsb' 32 32 := by
  rw [setPair_eq]; simp

@[simp] theorem reg_setPair_odd (s : State) (r : Reg) (v : DWord) :
    (s.setPair r v).reg (pairOdd r) = v.extractLsb' 0 32 := by
  rw [setPair_eq, reg_setReg_ne _ _ _ _ (fun e => pairEven_ne_pairOdd r e.symm)]; simp

/-! ## Checks and memory cycles -/

/-- The first check of an access. -/
theorem checkPresent_ok (s : State) (w : WordAddr) : checkPresent s w = .ok () ↔ s.present w = true := by
  unfold checkPresent
  cases s.present w <;> simp

/-- A write that is allowed. -/
theorem checkWrite_ok (s : State) (w : WordAddr) : checkWrite s w = .ok () ↔ WriteOpen s w := by
  unfold checkWrite WriteOpen
  cases s.present w <;> cases s.portReadOnly w <;> cases s.notPrivileged <;> cases s.pageLocked w <;> simp

theorem privilegedOnly_ok (s : State) : privilegedOnly s = .ok () ↔ s.unprivileged = false := by
  unfold privilegedOnly
  cases s.unprivileged <;> simp

/-- A word read, case by case. -/
theorem readWord_eq (s : State) (w : WordAddr) :
    readWord s w = if s.present w then
        if s.tick.parityBadAt w then .error (.trap .memoryParity s.tick) else .ok (s.tick.wordAt w, s.tick)
      else .error (.trap .nonPresentMemory s) := by
  unfold readWord readCycle checkPresent
  cases s.present w
  · rfl
  · cases h : s.tick.parityBadAt w <;> simp [bind, Except.bind, pure, Except.pure, h]

/-- A byte read, case by case. -/
theorem readByte_eq (s : State) (a : Addr) :
    readByte s a = if s.present a.wordAddr then
        if s.tick.parityBadAt a.wordAddr then .error (.trap .memoryParity s.tick) else .ok (s.tick.byteAt a, s.tick)
      else .error (.trap .nonPresentMemory s) := by
  unfold readByte readCycle checkPresent
  cases s.present a.wordAddr
  · rfl
  · cases h : s.tick.parityBadAt a.wordAddr <;> simp [bind, Except.bind, pure, Except.pure, h]

/-- A word read answers what its cycle sees, and only where the read is allowed. -/
theorem readWord_ok (s u : State) (w : WordAddr) (v : Word) :
    readWord s w = .ok (v, u) ↔
      s.present w = true ∧ s.tick.parityBadAt w = false ∧ v = s.tick.wordAt w ∧ u = s.tick := by
  rw [readWord_eq]
  cases s.present w <;> cases s.tick.parityBadAt w <;> simp [eq_comm (a := v), eq_comm (a := u)]

/-- A byte read answers what its cycle sees, and only where the read is allowed. -/
theorem readByte_ok (s u : State) (a : Addr) (b : Byte) :
    readByte s a = .ok (b, u) ↔
      s.present a.wordAddr = true ∧ s.tick.parityBadAt a.wordAddr = false ∧ b = s.tick.byteAt a ∧ u = s.tick := by
  rw [readByte_eq]
  cases s.present a.wordAddr <;> cases s.tick.parityBadAt a.wordAddr <;> simp [eq_comm (a := b), eq_comm (a := u)]

/-- An operand read answers what its cycles see, and only where the read is allowed. -/
theorem fetch_ok (s u : State) (e : Ea) (d : Datum) :
    fetch s e = .ok (d, u) ↔
      s.present e.word = true ∧ s.seenBad e = false ∧ d = s.seen e ∧ u = s.afterRead e := by
  unfold fetch checkPresent
  cases s.present e.word <;> cases s.seenBad e <;>
    simp [bind, Except.bind, eq_comm (a := d), eq_comm (a := u)]

/-- A store answers the state after the cycles that write, and only where the write is allowed. -/
theorem store_ok (s t : State) (e : Ea) (d : Datum) :
    store s e d = .ok t ↔ checkWrite s e.word = .ok () ∧ t = s.write e d := by
  unfold store
  cases checkWrite s e.word <;> simp [bind, Except.bind, pure, Except.pure, eq_comm]

/-- The read of a read-modify-write instruction. -/
theorem fetchForUpdate_ok (s u : State) (e : Ea) (d : Datum) :
    fetchForUpdate s e = .ok (d, u) ↔ checkWrite s e.word = .ok () ∧ fetch s e = .ok (d, u) := by
  unfold fetchForUpdate
  cases checkWrite s e.word <;> simp [bind, Except.bind]

@[simp] theorem ticks_zero (s : State) : s.ticks 0 = s := rfl

@[simp] theorem ticks_succ (s : State) (n : Nat) : s.ticks (n + 1) = (s.ticks n).tick := rfl

theorem ticks_bus (s : State) (n : Nat) : BusOnly s (s.ticks n) := by
  induction n with
  | zero => exact .refl s
  | succ n ih => exact ih.trans (tick_bus _)

/-- The cycles that read an operand touch nothing but what the bus does. -/
theorem afterRead_bus (s : State) (e : Ea) : BusOnly s (s.afterRead e) := by
  unfold State.afterRead
  cases e.format
  · exact tick_bus s
  · exact tick_bus s
  · exact tick_bus s
  · exact (tick_bus s).trans (tick_bus _)

/-! ## The effective address -/

/-- Without the Indirect bit the effective address is formed without any memory cycle. -/
theorem effAddr_direct (s : State) (m : MemRef) (h : m.ind = false) :
    effAddr s m = .ok ({ f := m.f, c := (s.indexed m).c, raw := s.indexed m, last := none }, s) := by
  simp [effAddr, h]

/-- Whatever an attempt to form an address ends in, what is different after it the bus has done. -/
def AddressBus (s : State) : Act (Ea × State) → Prop
  | .ok p => BusOnly s p.2
  | .error (.trap _ u) => BusOnly s u
  | .error (.hang u) => BusOnly s u
  | .error (.fault _) => False

theorem AddressBus.trans {s t : State} (h : BusOnly s t) {r : Act (Ea × State)} (k : AddressBus t r) :
    AddressBus s r := by
  match r, k with
  | .ok _, k => exact BusOnly.trans h k
  | .error (.trap _ _), k => exact BusOnly.trans h k
  | .error (.hang _), k => exact BusOnly.trans h k

theorem chase_bus (fuel : Nat) (f : Bool) (c : BitVec 2) (a : Addr) (s : State) :
    AddressBus s (chase fuel f c a s) := by
  induction fuel generalizing f c a s with
  | zero => exact BusOnly.refl s
  | succ n ih =>
    simp only [chase, readWord_eq]
    cases s.present a.wordAddr
    · exact BusOnly.refl s
    · cases s.tick.parityBadAt a.wordAddr
      · simp only [bind, Except.bind, if_true, Bool.false_eq_true, if_false]
        cases (MemRef.ofWord (s.tick.wordAt a.wordAddr)).ind
        · exact tick_bus s
        · exact AddressBus.trans (tick_bus s) (ih _ _ _ _)
      · exact tick_bus s

theorem effAddr_addressBus (s : State) (m : MemRef) : AddressBus s (effAddr s m) := by
  unfold effAddr
  cases m.ind
  · exact BusOnly.refl s
  · exact chase_bus _ _ _ _ _

/-- Forming an effective address changes nothing: what is different after it the bus has done. -/
theorem effAddr_bus (s u : State) (m : MemRef) (e : Ea) (h : effAddr s m = .ok (e, u)) : BusOnly s u := by
  have k := effAddr_addressBus s m
  rw [h] at k; exact k

/-- What a trap on the way leaves. -/
theorem effAddr_trap_bus (s u : State) (m : MemRef) (t : Trap) (h : effAddr s m = .error (.trap t u)) :
    BusOnly s u := by
  have k := effAddr_addressBus s m
  rw [h] at k; exact k

/-- What an endless chain leaves. -/
theorem effAddr_hang_bus (s u : State) (m : MemRef) (h : effAddr s m = .error (.hang u)) : BusOnly s u := by
  have k := effAddr_addressBus s m
  rw [h] at k; exact k

/-- The result of forming an address in a state whose program count is further on. -/
def advancedEa (len : BitVec 18) : Act (Ea × State) → Act (Ea × State)
  | .ok p => .ok (p.1, p.2.advance len)
  | .error (.trap t u) => .error (.trap t (u.advance len))
  | .error (.hang u) => .error (.hang (u.advance len))
  | .error (.fault f) => .error (.fault f)

theorem chase_advance (len : BitVec 18) (fuel : Nat) (f : Bool) (c : BitVec 2) (a : Addr) (s : State) :
    chase fuel f c a (s.advance len) = advancedEa len (chase fuel f c a s) := by
  induction fuel generalizing f c a s with
  | zero => rfl
  | succ n ih =>
    have hp : (s.advance len).present a.wordAddr = s.present a.wordAddr := rfl
    have hq : (s.tick.advance len).parityBadAt a.wordAddr = s.tick.parityBadAt a.wordAddr := rfl
    have hw : (s.tick.advance len).wordAt a.wordAddr = s.tick.wordAt a.wordAddr := rfl
    have hi : ∀ m, (s.tick.advance len).indexed m = s.tick.indexed m := fun _ => rfl
    simp only [chase, readWord_eq, hp, tick_advance, hq, hw]
    cases s.present a.wordAddr
    · rfl
    · cases s.tick.parityBadAt a.wordAddr
      · simp only [bind, Except.bind, if_true, Bool.false_eq_true, if_false, hi]
        split
        · exact ih _ _ _ _
        · rfl
      · rfl

/-- The effective address is that of the state before the program count was advanced. -/
@[simp] theorem effAddr_advance (s : State) (len : BitVec 18) (m : MemRef) :
    effAddr (s.advance len) m = advancedEa len (effAddr s m) := by
  have hi : (s.advance len).indexed m = s.indexed m := rfl
  have hc : (s.advance len).cfg = s.cfg := rfl
  simp only [effAddr, hi, hc, chase_advance]
  split <;> rfl

/-! ## The shapes of instructions -/

/-- An instruction with one memory operand that is read. -/
theorem withOperand_reads {m : MemRef} {s v : State} {d : Datum} (h : Reads s m d v) (f : State → Datum → Act State) :
    withOperand m f s = f v d := by
  obtain ⟨e, u, h, hp, hq, rfl, rfl⟩ := h
  simp [withOperand, fetch, checkPresent, bind, Except.bind, h, hp, hq]

/-- An absent operand. -/
theorem withOperand_absent {m : MemRef} {s u : State} {e : Ea} (h : effAddr s m = .ok (e, u))
    (hp : u.present e.word = false) (f : State → Datum → Act State) :
    withOperand m f s = .error (.trap .nonPresentMemory u) := by
  simp [withOperand, fetch, checkPresent, bind, Except.bind, h, hp]

/-- An operand of bad parity. -/
theorem withOperand_parity {m : MemRef} {s u : State} {e : Ea} (h : effAddr s m = .ok (e, u))
    (hp : u.present e.word = true) (hq : u.seenBad e = true) (f : State → Datum → Act State) :
    withOperand m f s = .error (.trap .memoryParity (u.afterRead e)) := by
  simp [withOperand, fetch, checkPresent, bind, Except.bind, h, hp, hq]

/-- No effective address. -/
theorem withOperand_stop {m : MemRef} {s : State} {x : Stop} (h : effAddr s m = .error x)
    (f : State → Datum → Act State) : withOperand m f s = .error x := by
  simp [withOperand, bind, Except.bind, h]

/-- An instruction with one memory operand that is read completes only where the operand reads. -/
theorem withOperand_ok (m : MemRef) (f : State → Datum → Act State) (s t : State) :
    withOperand m f s = .ok t ↔ ∃ d v, Reads s m d v ∧ f v d = .ok t := by
  refine ⟨fun k => ?_, fun ⟨d, v, h, k⟩ => (withOperand_reads h f).trans k⟩
  match h : effAddr s m with
  | .error x => rw [withOperand_stop h] at k; cases k
  | .ok (e, u) =>
    cases hp : u.present e.word
    · rw [withOperand_absent h hp] at k; cases k
    · cases hq : u.seenBad e
      · exact ⟨_, _, ⟨e, u, h, hp, hq, rfl, rfl⟩, by rwa [withOperand_reads ⟨e, u, h, hp, hq, rfl, rfl⟩] at k⟩
      · rw [withOperand_parity h hp hq] at k; cases k

/-- LB to LD completing. -/
theorem loadOp_reads {m : MemRef} {s v : State} {d : Datum} (h : Reads s m d v) (r : Reg) :
    loadOp r m s = .ok (v.deliver r false d.extend) := by
  obtain ⟨e, u, h, hp, hq, rfl, rfl⟩ := h
  simp [loadOp, checkPresent, bind, Except.bind, h, hp, hq]

/-- LB to LD with bad parity keep what they have loaded. -/
theorem loadOp_parity {m : MemRef} {s u : State} {e : Ea} (h : effAddr s m = .ok (e, u))
    (hp : u.present e.word = true) (hq : u.seenBad e = true) (r : Reg) :
    loadOp r m s = .error (.trap .memoryParity ((u.afterRead e).deliver r false (u.seen e).extend)) := by
  simp [loadOp, checkPresent, bind, Except.bind, h, hp, hq]

/-- An instruction that stores one operand. -/
theorem storing_writable {m : MemRef} {s u : State} {e : Ea} (h : Writable s m e u) (f : Format → Datum) :
    storing m f s = .ok (u.write e (f e.format)) := by
  obtain ⟨h, hw⟩ := h
  rw [← checkWrite_ok] at hw
  simp [storing, store, bind, Except.bind, pure, Except.pure, h, hw]

/-- An instruction that stores one operand. -/
theorem storing_ok (m : MemRef) (f : Format → Datum) (s t : State) :
    storing m f s = .ok t ↔ ∃ e u, Writable s m e u ∧ t = u.write e (f e.format) := by
  unfold storing store Writable
  cases h : effAddr s m with
  | error x => simp [bind, Except.bind]
  | ok p =>
    cases hc : checkWrite p.2 p.1.word with
    | error x =>
      simp only [bind, Except.bind, hc, reduceCtorEq, false_iff, not_exists]
      rintro e u ⟨⟨hp, hw⟩, -⟩
      cases hp
      rw [← checkWrite_ok] at hw
      rw [hc] at hw; cases hw
    | ok x =>
      simp only [bind, Except.bind, pure, Except.pure, hc, Except.ok.injEq]
      constructor
      · rintro rfl; exact ⟨p.1, p.2, ⟨rfl, (checkWrite_ok _ _).1 hc⟩, rfl⟩
      · rintro ⟨e, u, ⟨hp, -⟩, rfl⟩; cases hp; rfl

/-- A branch under a condition completing. -/
theorem branchIf_ok (c : Bool) (m : MemRef) (s t : State) :
    branchIf c m s = .ok t ↔
      (c = false ∧ t = s) ∨ (c = true ∧ ∃ e u, effAddr s m = .ok (e, u) ∧ t = u.jump e) := by
  unfold branchIf
  cases c
  · simp [eq_comm (a := t)]
  · cases h : effAddr s m with
    | error x => simp [bind, Except.bind]
    | ok p => simp [bind, Except.bind, pure, Except.pure, Prod.ext_iff, eq_comm (a := t)]

/-! ## Exceptions and the end of an instruction -/

/-- Entry: what it needs and what it leaves. -/
theorem enter_ok (s t : State) (n : Level) (trapForm : Bool) (h : enter s n trapForm = .ok t) :
    let l := saveLocation (s.tick.wordAt (dedicatedAddr n trapForm).wordAddr)
    let v := s.tick.writeWord l s.psw.word
    EntryReady s n trapForm ∧
      t = { v with
        request := setLevel v.request n false
        active := setLevel s.active n true
        psw := { s.psw with priv := true, pc := (l + 1#17) ++ 0#1 }
        run := .run
        shield := true
        hung := false } := by
  unfold enter at h
  unfold EntryReady
  dsimp only at h ⊢
  split at h
  · cases h
  · split at h
    · cases h
    · rename_i h1 h2
      simp only [Bool.or_eq_true, Bool.not_eq_true', not_or, Bool.not_eq_false, Bool.not_eq_true] at h1 h2
      refine ⟨⟨h1.1, h1.2, h2.1, h2.2⟩, ?_⟩
      injection h with h
      exact h.symm

/-- A trap that is taken. -/
theorem raise_taken (t : Trap) (len : BitVec 18) (s : State)
    (h : (hasLevel s.enabled t.level && !s.blocked t.level) = true) :
    raise t len s = entered (enter s t.level true) := by simp [raise, h]

/-- A trap that cannot be taken: a No Operation. -/
theorem raise_skipped (t : Trap) (len : BitVec 18) (s : State)
    (h : (hasLevel s.enabled t.level && !s.blocked t.level) = false) :
    raise t len s = .next { s.advance len with errorIndicator := s.errorIndicator || t == .memoryParity } := by
  simp [raise, h]

@[simp] theorem complete_ok (len pc : BitVec 18) (t : State) : complete len pc (.ok t) = .next t := rfl

@[simp] theorem complete_trap (len pc : BitVec 18) (t : Trap) (u : State) :
    complete len pc (.error (.trap t u)) = raise t len (u.setPc pc) := rfl

@[simp] theorem complete_hang (len pc : BitVec 18) (u : State) :
    complete len pc (.error (.hang u)) = endlessChain (u.setPc pc) := rfl

@[simp] theorem complete_fault (len pc : BitVec 18) (f : Fault) :
    complete len pc (.error (.fault f)) = .fault f := rfl

@[simp] theorem setPc_advance (s : State) (len pc : BitVec 18) : (s.advance len).setPc pc = s.setPc pc := rfl

@[simp] theorem setPc_self (s : State) : s.setPc s.psw.pc = s := rfl

/-- A word instruction whose operation answers a state. -/
theorem runWord_ok (op : State → Act State) (s t : State) (h : op (s.advance 2#18) = .ok t) :
    runWord op s = .next t := by simp [runWord, h]

/-- A halfword instruction whose operation answers a state. -/
theorem runHalf_ok (op : State → Act State) (s t : State) (h : op (s.advance 1#18) = .ok t) :
    runHalf op s = .next t := by simp [runHalf, h]

end Sys2Proof.Machine
end

