-- ==== Sys2Proof/Laws/PerInstr.lean ====
section
/-!
SUPPORT. The family EncodedLength: an instruction is a halfword whose bit 0 is 0, or a word whose bit 0 is 1
(30_encoding.md R101).
-/

namespace Sys2Proof.Laws.EncodedLength

/-- The length rule of an instruction as syntax. -/
def Statement (i : Sys2Proof.Instr) : Prop :=
  (∃ h, Sys2Proof.encode i = Sys2Proof.halfBytes h ∧ h.msb = false) ∨
    (∃ w, Sys2Proof.encode i = Sys2Proof.wordBytes w ∧ w.msb = true)

theorem msb_interRegister (op : BitVec 6) (d s : Sys2Proof.Reg) (aug : BitVec 4) :
    (Sys2Proof.interRegister op d s aug).msb = op.msb := by
  simp only [Sys2Proof.interRegister, BitVec.msb_eq_getLsbD_last, BitVec.getLsbD_append]
  rfl

theorem msb_shiftHalf (op : BitVec 6) (r : Sys2Proof.Reg) (left : Bool) (n : BitVec 5) :
    (Sys2Proof.shiftHalf op r left n).msb = op.msb := by
  simp only [Sys2Proof.shiftHalf, BitVec.msb_eq_getLsbD_last, BitVec.getLsbD_append]
  rfl

theorem msb_bitHalf (op : BitVec 6) (n : BitVec 3) (r : Sys2Proof.Reg) (y : BitVec 2) :
    (Sys2Proof.bitHalf op n r y).msb = op.msb := by
  simp only [Sys2Proof.bitHalf, BitVec.msb_eq_getLsbD_last, BitVec.getLsbD_append]
  rfl

theorem msb_memoryWord (op : BitVec 6) (r : BitVec 3) (m : Sys2Proof.MemRef) :
    (Sys2Proof.memoryWord op r m).msb = op.msb := by
  simp only [Sys2Proof.memoryWord, BitVec.msb_eq_getLsbD_last, BitVec.getLsbD_append]
  rfl

theorem msb_immediateWord (r : Sys2Proof.Reg) (aug : BitVec 3) (imm : BitVec 16) :
    (Sys2Proof.immediateWord r aug imm).msb = true := by
  simp only [Sys2Proof.immediateWord, BitVec.msb_eq_getLsbD_last, BitVec.getLsbD_append]
  rfl

theorem msb_controlWord (n : BitVec 7) (aug : BitVec 3) (code : BitVec 16) :
    (Sys2Proof.controlWord n aug code).msb = true := by
  simp only [Sys2Proof.controlWord, BitVec.msb_eq_getLsbD_last, BitVec.getLsbD_append]
  rfl

theorem msb_protectWord (sub : BitVec 3) (p : BitVec 4) (r : Sys2Proof.Reg) :
    (Sys2Proof.protectWord sub p r).msb = true := by
  simp only [Sys2Proof.protectWord, BitVec.msb_eq_getLsbD_last, BitVec.getLsbD_append]
  rfl

theorem msb_calm (flags : BitVec 10) : (0x0c#6 ++ flags).msb = false := by
  simp only [BitVec.msb_eq_getLsbD_last, BitVec.getLsbD_append]
  rfl

theorem lb (r : Sys2Proof.Reg) (m : Sys2Proof.MemRef) : Statement (.lb r m) :=
  .inr ⟨_, rfl, msb_memoryWord _ _ _⟩

theorem lh (r : Sys2Proof.Reg) (m : Sys2Proof.MemRef) : Statement (.lh r m) :=
  .inr ⟨_, rfl, msb_memoryWord _ _ _⟩

theorem lw (r : Sys2Proof.Reg) (m : Sys2Proof.MemRef) : Statement (.lw r m) :=
  .inr ⟨_, rfl, msb_memoryWord _ _ _⟩

theorem ld (r : Sys2Proof.Reg) (m : Sys2Proof.MemRef) : Statement (.ld r m) :=
  .inr ⟨_, rfl, msb_memoryWord _ _ _⟩

theorem lmb (r : Sys2Proof.Reg) (m : Sys2Proof.MemRef) : Statement (.lmb r m) :=
  .inr ⟨_, rfl, msb_memoryWord _ _ _⟩

theorem lmh (r : Sys2Proof.Reg) (m : Sys2Proof.MemRef) : Statement (.lmh r m) :=
  .inr ⟨_, rfl, msb_memoryWord _ _ _⟩

theorem lmw (r : Sys2Proof.Reg) (m : Sys2Proof.MemRef) : Statement (.lmw r m) :=
  .inr ⟨_, rfl, msb_memoryWord _ _ _⟩

theorem lmd (r : Sys2Proof.Reg) (m : Sys2Proof.MemRef) : Statement (.lmd r m) :=
  .inr ⟨_, rfl, msb_memoryWord _ _ _⟩

theorem lnb (r : Sys2Proof.Reg) (m : Sys2Proof.MemRef) : Statement (.lnb r m) :=
  .inr ⟨_, rfl, msb_memoryWord _ _ _⟩

theorem lnh (r : Sys2Proof.Reg) (m : Sys2Proof.MemRef) : Statement (.lnh r m) :=
  .inr ⟨_, rfl, msb_memoryWord _ _ _⟩

theorem lnw (r : Sys2Proof.Reg) (m : Sys2Proof.MemRef) : Statement (.lnw r m) :=
  .inr ⟨_, rfl, msb_memoryWord _ _ _⟩

theorem lnd (r : Sys2Proof.Reg) (m : Sys2Proof.MemRef) : Statement (.lnd r m) :=
  .inr ⟨_, rfl, msb_memoryWord _ _ _⟩

theorem li (r : Sys2Proof.Reg) (imm : BitVec 16) : Statement (.li r imm) :=
  .inr ⟨_, rfl, msb_immediateWord _ _ _⟩

theorem lea (r : Sys2Proof.Reg) (m : Sys2Proof.MemRef) : Statement (.lea r m) :=
  .inr ⟨_, rfl, msb_memoryWord _ _ _⟩

theorem stb (r : Sys2Proof.Reg) (m : Sys2Proof.MemRef) : Statement (.stb r m) :=
  .inr ⟨_, rfl, msb_memoryWord _ _ _⟩

theorem sth (r : Sys2Proof.Reg) (m : Sys2Proof.MemRef) : Statement (.sth r m) :=
  .inr ⟨_, rfl, msb_memoryWord _ _ _⟩

theorem stw (r : Sys2Proof.Reg) (m : Sys2Proof.MemRef) : Statement (.stw r m) :=
  .inr ⟨_, rfl, msb_memoryWord _ _ _⟩

theorem std (r : Sys2Proof.Reg) (m : Sys2Proof.MemRef) : Statement (.std r m) :=
  .inr ⟨_, rfl, msb_memoryWord _ _ _⟩

theorem stmb (r : Sys2Proof.Reg) (m : Sys2Proof.MemRef) : Statement (.stmb r m) :=
  .inr ⟨_, rfl, msb_memoryWord _ _ _⟩

theorem stmh (r : Sys2Proof.Reg) (m : Sys2Proof.MemRef) : Statement (.stmh r m) :=
  .inr ⟨_, rfl, msb_memoryWord _ _ _⟩

theorem stmw (r : Sys2Proof.Reg) (m : Sys2Proof.MemRef) : Statement (.stmw r m) :=
  .inr ⟨_, rfl, msb_memoryWord _ _ _⟩

theorem stmd (r : Sys2Proof.Reg) (m : Sys2Proof.MemRef) : Statement (.stmd r m) :=
  .inr ⟨_, rfl, msb_memoryWord _ _ _⟩

theorem zmb (m : Sys2Proof.MemRef) : Statement (.zmb m) :=
  .inr ⟨_, rfl, msb_memoryWord _ _ _⟩

theorem zmh (m : Sys2Proof.MemRef) : Statement (.zmh m) :=
  .inr ⟨_, rfl, msb_memoryWord _ _ _⟩

theorem zmw (m : Sys2Proof.MemRef) : Statement (.zmw m) :=
  .inr ⟨_, rfl, msb_memoryWord _ _ _⟩

theorem zmd (m : Sys2Proof.MemRef) : Statement (.zmd m) :=
  .inr ⟨_, rfl, msb_memoryWord _ _ _⟩

theorem lcs (r : Sys2Proof.Reg) : Statement (.lcs r) :=
  .inl ⟨_, rfl, msb_interRegister _ _ _ _⟩

theorem lf (r : Sys2Proof.Reg) (m : Sys2Proof.MemRef) : Statement (.lf r m) :=
  .inr ⟨_, rfl, msb_memoryWord _ _ _⟩

theorem stf (r : Sys2Proof.Reg) (m : Sys2Proof.MemRef) : Statement (.stf r m) :=
  .inr ⟨_, rfl, msb_memoryWord _ _ _⟩

theorem zr (d : Sys2Proof.Reg) : Statement (.zr d) :=
  .inl ⟨_, rfl, msb_interRegister _ _ _ _⟩

theorem admb (r : Sys2Proof.Reg) (m : Sys2Proof.MemRef) : Statement (.admb r m) :=
  .inr ⟨_, rfl, msb_memoryWord _ _ _⟩

theorem admh (r : Sys2Proof.Reg) (m : Sys2Proof.MemRef) : Statement (.admh r m) :=
  .inr ⟨_, rfl, msb_memoryWord _ _ _⟩

theorem admw (r : Sys2Proof.Reg) (m : Sys2Proof.MemRef) : Statement (.admw r m) :=
  .inr ⟨_, rfl, msb_memoryWord _ _ _⟩

theorem admd (r : Sys2Proof.Reg) (m : Sys2Proof.MemRef) : Statement (.admd r m) :=
  .inr ⟨_, rfl, msb_memoryWord _ _ _⟩

theorem adr (d s : Sys2Proof.Reg) : Statement (.adr d s) :=
  .inl ⟨_, rfl, msb_interRegister _ _ _ _⟩

theorem adrm (d s : Sys2Proof.Reg) : Statement (.adrm d s) :=
  .inl ⟨_, rfl, msb_interRegister _ _ _ _⟩

theorem armb (r : Sys2Proof.Reg) (m : Sys2Proof.MemRef) : Statement (.armb r m) :=
  .inr ⟨_, rfl, msb_memoryWord _ _ _⟩

theorem armh (r : Sys2Proof.Reg) (m : Sys2Proof.MemRef) : Statement (.armh r m) :=
  .inr ⟨_, rfl, msb_memoryWord _ _ _⟩

theorem armw (r : Sys2Proof.Reg) (m : Sys2Proof.MemRef) : Statement (.armw r m) :=
  .inr ⟨_, rfl, msb_memoryWord _ _ _⟩

theorem armd (r : Sys2Proof.Reg) (m : Sys2Proof.MemRef) : Statement (.armd r m) :=
  .inr ⟨_, rfl, msb_memoryWord _ _ _⟩

theorem adi (r : Sys2Proof.Reg) (imm : BitVec 16) : Statement (.adi r imm) :=
  .inr ⟨_, rfl, msb_immediateWord _ _ _⟩

theorem sumb (r : Sys2Proof.Reg) (m : Sys2Proof.MemRef) : Statement (.sumb r m) :=
  .inr ⟨_, rfl, msb_memoryWord _ _ _⟩

theorem sumh (r : Sys2Proof.Reg) (m : Sys2Proof.MemRef) : Statement (.sumh r m) :=
  .inr ⟨_, rfl, msb_memoryWord _ _ _⟩

theorem sumw (r : Sys2Proof.Reg) (m : Sys2Proof.MemRef) : Statement (.sumw r m) :=
  .inr ⟨_, rfl, msb_memoryWord _ _ _⟩

theorem sumd (r : Sys2Proof.Reg) (m : Sys2Proof.MemRef) : Statement (.sumd r m) :=
  .inr ⟨_, rfl, msb_memoryWord _ _ _⟩

theorem sur (d s : Sys2Proof.Reg) : Statement (.sur d s) :=
  .inl ⟨_, rfl, msb_interRegister _ _ _ _⟩

theorem surm (d s : Sys2Proof.Reg) : Statement (.surm d s) :=
  .inl ⟨_, rfl, msb_interRegister _ _ _ _⟩

theorem sui (r : Sys2Proof.Reg) (imm : BitVec 16) : Statement (.sui r imm) :=
  .inr ⟨_, rfl, msb_immediateWord _ _ _⟩

theorem mpmb (r : Sys2Proof.Reg) (m : Sys2Proof.MemRef) : Statement (.mpmb r m) :=
  .inr ⟨_, rfl, msb_memoryWord _ _ _⟩

theorem mpmh (r : Sys2Proof.Reg) (m : Sys2Proof.MemRef) : Statement (.mpmh r m) :=
  .inr ⟨_, rfl, msb_memoryWord _ _ _⟩

theorem mpmw (r : Sys2Proof.Reg) (m : Sys2Proof.MemRef) : Statement (.mpmw r m) :=
  .inr ⟨_, rfl, msb_memoryWord _ _ _⟩

theorem mpr (d s : Sys2Proof.Reg) : Statement (.mpr d s) :=
  .inl ⟨_, rfl, msb_interRegister _ _ _ _⟩

theorem mpi (r : Sys2Proof.Reg) (imm : BitVec 16) : Statement (.mpi r imm) :=
  .inr ⟨_, rfl, msb_immediateWord _ _ _⟩

theorem dvmb (r : Sys2Proof.Reg) (m : Sys2Proof.MemRef) : Statement (.dvmb r m) :=
  .inr ⟨_, rfl, msb_memoryWord _ _ _⟩

theorem dvmh (r : Sys2Proof.Reg) (m : Sys2Proof.MemRef) : Statement (.dvmh r m) :=
  .inr ⟨_, rfl, msb_memoryWord _ _ _⟩

theorem dvmw (r : Sys2Proof.Reg) (m : Sys2Proof.MemRef) : Statement (.dvmw r m) :=
  .inr ⟨_, rfl, msb_memoryWord _ _ _⟩

theorem dvr (d s : Sys2Proof.Reg) : Statement (.dvr d s) :=
  .inl ⟨_, rfl, msb_interRegister _ _ _ _⟩

theorem dvi (r : Sys2Proof.Reg) (imm : BitVec 16) : Statement (.dvi r imm) :=
  .inr ⟨_, rfl, msb_immediateWord _ _ _⟩

theorem es (r : Sys2Proof.Reg) : Statement (.es r) :=
  .inl ⟨_, rfl, msb_interRegister _ _ _ _⟩

theorem rnd (r : Sys2Proof.Reg) : Statement (.rnd r) :=
  .inl ⟨_, rfl, msb_interRegister _ _ _ _⟩

theorem adfw (r : Sys2Proof.Reg) (m : Sys2Proof.MemRef) : Statement (.adfw r m) :=
  .inr ⟨_, rfl, msb_memoryWord _ _ _⟩

theorem adfd (r : Sys2Proof.Reg) (m : Sys2Proof.MemRef) : Statement (.adfd r m) :=
  .inr ⟨_, rfl, msb_memoryWord _ _ _⟩

theorem sufw (r : Sys2Proof.Reg) (m : Sys2Proof.MemRef) : Statement (.sufw r m) :=
  .inr ⟨_, rfl, msb_memoryWord _ _ _⟩

theorem sufd (r : Sys2Proof.Reg) (m : Sys2Proof.MemRef) : Statement (.sufd r m) :=
  .inr ⟨_, rfl, msb_memoryWord _ _ _⟩

theorem mpfw (r : Sys2Proof.Reg) (m : Sys2Proof.MemRef) : Statement (.mpfw r m) :=
  .inr ⟨_, rfl, msb_memoryWord _ _ _⟩

theorem mpfd (r : Sys2Proof.Reg) (m : Sys2Proof.MemRef) : Statement (.mpfd r m) :=
  .inr ⟨_, rfl, msb_memoryWord _ _ _⟩

theorem dvfw (r : Sys2Proof.Reg) (m : Sys2Proof.MemRef) : Statement (.dvfw r m) :=
  .inr ⟨_, rfl, msb_memoryWord _ _ _⟩

theorem dvfd (r : Sys2Proof.Reg) (m : Sys2Proof.MemRef) : Statement (.dvfd r m) :=
  .inr ⟨_, rfl, msb_memoryWord _ _ _⟩

theorem anmb (r : Sys2Proof.Reg) (m : Sys2Proof.MemRef) : Statement (.anmb r m) :=
  .inr ⟨_, rfl, msb_memoryWord _ _ _⟩

theorem anmh (r : Sys2Proof.Reg) (m : Sys2Proof.MemRef) : Statement (.anmh r m) :=
  .inr ⟨_, rfl, msb_memoryWord _ _ _⟩

theorem anmw (r : Sys2Proof.Reg) (m : Sys2Proof.MemRef) : Statement (.anmw r m) :=
  .inr ⟨_, rfl, msb_memoryWord _ _ _⟩

theorem anmd (r : Sys2Proof.Reg) (m : Sys2Proof.MemRef) : Statement (.anmd r m) :=
  .inr ⟨_, rfl, msb_memoryWord _ _ _⟩

theorem anr (d s : Sys2Proof.Reg) : Statement (.anr d s) :=
  .inl ⟨_, rfl, msb_interRegister _ _ _ _⟩

theorem ormb (r : Sys2Proof.Reg) (m : Sys2Proof.MemRef) : Statement (.ormb r m) :=
  .inr ⟨_, rfl, msb_memoryWord _ _ _⟩

theorem ormh (r : Sys2Proof.Reg) (m : Sys2Proof.MemRef) : Statement (.ormh r m) :=
  .inr ⟨_, rfl, msb_memoryWord _ _ _⟩

theorem ormw (r : Sys2Proof.Reg) (m : Sys2Proof.MemRef) : Statement (.ormw r m) :=
  .inr ⟨_, rfl, msb_memoryWord _ _ _⟩

theorem ormd (r : Sys2Proof.Reg) (m : Sys2Proof.MemRef) : Statement (.ormd r m) :=
  .inr ⟨_, rfl, msb_memoryWord _ _ _⟩

theorem orr (d s : Sys2Proof.Reg) : Statement (.orr d s) :=
  .inl ⟨_, rfl, msb_interRegister _ _ _ _⟩

theorem orrm (d s : Sys2Proof.Reg) : Statement (.orrm d s) :=
  .inl ⟨_, rfl, msb_interRegister _ _ _ _⟩

theorem eomb (r : Sys2Proof.Reg) (m : Sys2Proof.MemRef) : Statement (.eomb r m) :=
  .inr ⟨_, rfl, msb_memoryWord _ _ _⟩

theorem eomh (r : Sys2Proof.Reg) (m : Sys2Proof.MemRef) : Statement (.eomh r m) :=
  .inr ⟨_, rfl, msb_memoryWord _ _ _⟩

theorem eomw (r : Sys2Proof.Reg) (m : Sys2Proof.MemRef) : Statement (.eomw r m) :=
  .inr ⟨_, rfl, msb_memoryWord _ _ _⟩

theorem eomd (r : Sys2Proof.Reg) (m : Sys2Proof.MemRef) : Statement (.eomd r m) :=
  .inr ⟨_, rfl, msb_memoryWord _ _ _⟩

theorem eor (d s : Sys2Proof.Reg) : Statement (.eor d s) :=
  .inl ⟨_, rfl, msb_interRegister _ _ _ _⟩

theorem eorm (d s : Sys2Proof.Reg) : Statement (.eorm d s) :=
  .inl ⟨_, rfl, msb_interRegister _ _ _ _⟩

theorem sbm (n : BitVec 3) (m : Sys2Proof.MemRef) : Statement (.sbm n m) :=
  .inr ⟨_, rfl, msb_memoryWord _ _ _⟩

theorem sbr (n : BitVec 3) (r : Sys2Proof.Reg) (y : BitVec 2) : Statement (.sbr n r y) :=
  .inl ⟨_, rfl, msb_bitHalf _ _ _ _⟩

theorem zbm (n : BitVec 3) (m : Sys2Proof.MemRef) : Statement (.zbm n m) :=
  .inr ⟨_, rfl, msb_memoryWord _ _ _⟩

theorem zbr (n : BitVec 3) (r : Sys2Proof.Reg) (y : BitVec 2) : Statement (.zbr n r y) :=
  .inl ⟨_, rfl, msb_bitHalf _ _ _ _⟩

theorem abm (n : BitVec 3) (m : Sys2Proof.MemRef) : Statement (.abm n m) :=
  .inr ⟨_, rfl, msb_memoryWord _ _ _⟩

theorem abr (n : BitVec 3) (r : Sys2Proof.Reg) (y : BitVec 2) : Statement (.abr n r y) :=
  .inl ⟨_, rfl, msb_bitHalf _ _ _ _⟩

theorem tbm (n : BitVec 3) (m : Sys2Proof.MemRef) : Statement (.tbm n m) :=
  .inr ⟨_, rfl, msb_memoryWord _ _ _⟩

theorem tbr (n : BitVec 3) (r : Sys2Proof.Reg) (y : BitVec 2) : Statement (.tbr n r y) :=
  .inl ⟨_, rfl, msb_bitHalf _ _ _ _⟩

theorem camb (r : Sys2Proof.Reg) (m : Sys2Proof.MemRef) : Statement (.camb r m) :=
  .inr ⟨_, rfl, msb_memoryWord _ _ _⟩

theorem camh (r : Sys2Proof.Reg) (m : Sys2Proof.MemRef) : Statement (.camh r m) :=
  .inr ⟨_, rfl, msb_memoryWord _ _ _⟩

theorem camw (r : Sys2Proof.Reg) (m : Sys2Proof.MemRef) : Statement (.camw r m) :=
  .inr ⟨_, rfl, msb_memoryWord _ _ _⟩

theorem camd (r : Sys2Proof.Reg) (m : Sys2Proof.MemRef) : Statement (.camd r m) :=
  .inr ⟨_, rfl, msb_memoryWord _ _ _⟩

theorem car (d s : Sys2Proof.Reg) : Statement (.car d s) :=
  .inl ⟨_, rfl, msb_interRegister _ _ _ _⟩

theorem ci (r : Sys2Proof.Reg) (imm : BitVec 16) : Statement (.ci r imm) :=
  .inr ⟨_, rfl, msb_immediateWord _ _ _⟩

theorem cmmb (r : Sys2Proof.Reg) (m : Sys2Proof.MemRef) : Statement (.cmmb r m) :=
  .inr ⟨_, rfl, msb_memoryWord _ _ _⟩

theorem cmmh (r : Sys2Proof.Reg) (m : Sys2Proof.MemRef) : Statement (.cmmh r m) :=
  .inr ⟨_, rfl, msb_memoryWord _ _ _⟩

theorem cmmw (r : Sys2Proof.Reg) (m : Sys2Proof.MemRef) : Statement (.cmmw r m) :=
  .inr ⟨_, rfl, msb_memoryWord _ _ _⟩

theorem cmmd (r : Sys2Proof.Reg) (m : Sys2Proof.MemRef) : Statement (.cmmd r m) :=
  .inr ⟨_, rfl, msb_memoryWord _ _ _⟩

theorem cmr (d s : Sys2Proof.Reg) : Statement (.cmr d s) :=
  .inl ⟨_, rfl, msb_interRegister _ _ _ _⟩

theorem bu (m : Sys2Proof.MemRef) : Statement (.bu m) :=
  .inr ⟨_, rfl, msb_memoryWord _ _ _⟩

theorem bct (d : BitVec 3) (m : Sys2Proof.MemRef) : Statement (.bct d m) :=
  .inr ⟨_, rfl, msb_memoryWord _ _ _⟩

theorem bcf (d : BitVec 3) (m : Sys2Proof.MemRef) : Statement (.bcf d m) :=
  .inr ⟨_, rfl, msb_memoryWord _ _ _⟩

theorem bft (m : Sys2Proof.MemRef) : Statement (.bft m) :=
  .inr ⟨_, rfl, msb_memoryWord _ _ _⟩

theorem bl (m : Sys2Proof.MemRef) : Statement (.bl m) :=
  .inr ⟨_, rfl, msb_memoryWord _ _ _⟩

theorem bib (r : Sys2Proof.Reg) (m : Sys2Proof.MemRef) : Statement (.bib r m) :=
  .inr ⟨_, rfl, msb_memoryWord _ _ _⟩

theorem bih (r : Sys2Proof.Reg) (m : Sys2Proof.MemRef) : Statement (.bih r m) :=
  .inr ⟨_, rfl, msb_memoryWord _ _ _⟩

theorem biw (r : Sys2Proof.Reg) (m : Sys2Proof.MemRef) : Statement (.biw r m) :=
  .inr ⟨_, rfl, msb_memoryWord _ _ _⟩

theorem bid (r : Sys2Proof.Reg) (m : Sys2Proof.MemRef) : Statement (.bid r m) :=
  .inr ⟨_, rfl, msb_memoryWord _ _ _⟩

theorem bri (m : Sys2Proof.MemRef) : Statement (.bri m) :=
  .inr ⟨_, rfl, msb_memoryWord _ _ _⟩

theorem trr (d s : Sys2Proof.Reg) : Statement (.trr d s) :=
  .inl ⟨_, rfl, msb_interRegister _ _ _ _⟩

theorem trrm (d s : Sys2Proof.Reg) : Statement (.trrm d s) :=
  .inl ⟨_, rfl, msb_interRegister _ _ _ _⟩

theorem trn (d s : Sys2Proof.Reg) : Statement (.trn d s) :=
  .inl ⟨_, rfl, msb_interRegister _ _ _ _⟩

theorem trnm (d s : Sys2Proof.Reg) : Statement (.trnm d s) :=
  .inl ⟨_, rfl, msb_interRegister _ _ _ _⟩

theorem xcr (d s : Sys2Proof.Reg) : Statement (.xcr d s) :=
  .inl ⟨_, rfl, msb_interRegister _ _ _ _⟩

theorem xcrm (d s : Sys2Proof.Reg) : Statement (.xcrm d s) :=
  .inl ⟨_, rfl, msb_interRegister _ _ _ _⟩

theorem trc (d s : Sys2Proof.Reg) : Statement (.trc d s) :=
  .inl ⟨_, rfl, msb_interRegister _ _ _ _⟩

theorem trcm (d s : Sys2Proof.Reg) : Statement (.trcm d s) :=
  .inl ⟨_, rfl, msb_interRegister _ _ _ _⟩

theorem trp (m : BitVec 4) (r : Sys2Proof.Reg) : Statement (.trp m r) :=
  .inr ⟨_, rfl, msb_protectWord _ _ _⟩

theorem tpr (m : BitVec 4) (r : Sys2Proof.Reg) : Statement (.tpr m r) :=
  .inr ⟨_, rfl, msb_protectWord _ _ _⟩

theorem trsw (r : Sys2Proof.Reg) : Statement (.trsw r) :=
  .inl ⟨_, rfl, msb_interRegister _ _ _ _⟩

theorem nor (a b : Sys2Proof.Reg) : Statement (.nor a b) :=
  .inl ⟨_, rfl, msb_interRegister _ _ _ _⟩

theorem nord (a b : Sys2Proof.Reg) : Statement (.nord a b) :=
  .inl ⟨_, rfl, msb_interRegister _ _ _ _⟩

theorem scz (a b : Sys2Proof.Reg) : Statement (.scz a b) :=
  .inl ⟨_, rfl, msb_interRegister _ _ _ _⟩

theorem sla (r : Sys2Proof.Reg) (n : BitVec 5) : Statement (.sla r n) :=
  .inl ⟨_, rfl, msb_shiftHalf _ _ _ _⟩

theorem sll (r : Sys2Proof.Reg) (n : BitVec 5) : Statement (.sll r n) :=
  .inl ⟨_, rfl, msb_shiftHalf _ _ _ _⟩

theorem slc (r : Sys2Proof.Reg) (n : BitVec 5) : Statement (.slc r n) :=
  .inl ⟨_, rfl, msb_shiftHalf _ _ _ _⟩

theorem slad (r : Sys2Proof.Reg) (n : BitVec 5) : Statement (.slad r n) :=
  .inl ⟨_, rfl, msb_shiftHalf _ _ _ _⟩

theorem slld (r : Sys2Proof.Reg) (n : BitVec 5) : Statement (.slld r n) :=
  .inl ⟨_, rfl, msb_shiftHalf _ _ _ _⟩

theorem sra (r : Sys2Proof.Reg) (n : BitVec 5) : Statement (.sra r n) :=
  .inl ⟨_, rfl, msb_shiftHalf _ _ _ _⟩

theorem srl (r : Sys2Proof.Reg) (n : BitVec 5) : Statement (.srl r n) :=
  .inl ⟨_, rfl, msb_shiftHalf _ _ _ _⟩

theorem src (r : Sys2Proof.Reg) (n : BitVec 5) : Statement (.src r n) :=
  .inl ⟨_, rfl, msb_shiftHalf _ _ _ _⟩

theorem srad (r : Sys2Proof.Reg) (n : BitVec 5) : Statement (.srad r n) :=
  .inl ⟨_, rfl, msb_shiftHalf _ _ _ _⟩

theorem srld (r : Sys2Proof.Reg) (n : BitVec 5) : Statement (.srld r n) :=
  .inl ⟨_, rfl, msb_shiftHalf _ _ _ _⟩

theorem exr (r : Sys2Proof.Reg) : Statement (.exr r) :=
  .inr ⟨_, rfl, msb_immediateWord _ _ _⟩

theorem exrr (r : Sys2Proof.Reg) : Statement (.exrr r) :=
  .inr ⟨_, rfl, msb_immediateWord _ _ _⟩

theorem exm (m : Sys2Proof.MemRef) : Statement (.exm m) :=
  .inr ⟨_, rfl, msb_memoryWord _ _ _⟩

theorem halt : Statement (.halt) :=
  .inl ⟨_, rfl, msb_interRegister _ _ _ _⟩

theorem wait : Statement (.wait) :=
  .inl ⟨_, rfl, msb_interRegister _ _ _ _⟩

theorem nop : Statement (.nop) :=
  .inl ⟨_, rfl, msb_interRegister _ _ _ _⟩

theorem calm (flags : BitVec 10) : Statement (.calm flags) :=
  .inl ⟨_, rfl, msb_calm _⟩

theorem ei (n : Sys2Proof.Level) : Statement (.ei n) :=
  .inr ⟨_, rfl, msb_controlWord _ _ _⟩

theorem di (n : Sys2Proof.Level) : Statement (.di n) :=
  .inr ⟨_, rfl, msb_controlWord _ _ _⟩

theorem ri (n : Sys2Proof.Level) : Statement (.ri n) :=
  .inr ⟨_, rfl, msb_controlWord _ _ _⟩

theorem ai (n : Sys2Proof.Level) : Statement (.ai n) :=
  .inr ⟨_, rfl, msb_controlWord _ _ _⟩

theorem dai (n : Sys2Proof.Level) : Statement (.dai n) :=
  .inr ⟨_, rfl, msb_controlWord _ _ _⟩

theorem cd (device : BitVec 7) (code : BitVec 16) : Statement (.cd device code) :=
  .inr ⟨_, rfl, msb_controlWord _ _ _⟩

theorem td (device : BitVec 7) (code : BitVec 16) : Statement (.td device code) :=
  .inr ⟨_, rfl, msb_controlWord _ _ _⟩

end Sys2Proof.Laws.EncodedLength
end

