-- ==== Sys2Proof/Tests/Slice0.lean ====
section
/-!
SUPPORT. The model's own tests: ill-formed terms, decoding of words written out in the spec, one step of each
instruction on a worked example (95_test_vectors.md: S entries are the manual's, V entries the spec's), and states that
meet the hypotheses of the statements.
-/

namespace Sys2Proof.Tests

open Sys2Proof.Machine

set_option Elab.async false

/-! ## Helpers -/

/-- Bytes go to memory from an address on. -/
def putBytes (s : State) : Nat → List Nat → State
  | _, [] => s
  | a, b :: t => putBytes (s.setByte (BitVec.ofNat 19 a) (BitVec.ofNat 8 b)) (a + 1) t

/-- Several runs of bytes go to memory. -/
def putAll (s : State) : List (Nat × List Nat) → State
  | [] => s
  | p :: t => putAll (putBytes s p.1 p.2) t

/-- Registers by number. -/
def putRegs (s : State) : List (Nat × Nat) → State
  | [] => s
  | p :: t => putRegs (s.setReg (BitVec.ofNat 3 p.1) (BitVec.ofNat 32 p.2)) t

/-- A machine with a PSWR, registers and memory, nothing requested and the keyswitch adopted; the rest as at reset. -/
def bench (psw : Nat) (regs : List (Nat × Nat)) (mem : List (Nat × List Nat)) : State :=
  putAll (putRegs { State.reset with
    psw := State.reset.psw.loadAll (BitVec.ofNat 32 psw)
    request := 0#128
    keyswitchPending := false } regs) mem

/-- The bytes at an address are these. -/
def holds (s : State) : Nat → List Nat → Bool
  | _, [] => true
  | a, b :: t => s.byteAt (BitVec.ofNat 19 a) == BitVec.ofNat 8 b && holds s (a + 1) t

/-- The machine has this PSWR (if given), these registers with all others zero, and these bytes in memory. -/
def isState (psw : Option Nat) (regs : List (Nat × Nat)) (mem : List (Nat × List Nat)) (s : State) : Bool :=
  (match psw with
    | some p => s.psw.word == BitVec.ofNat 32 p
    | none => true) &&
    decide (s.regs = (putRegs State.reset regs).regs) && mem.all fun p => holds s p.1 p.2

/-- What the next state must satisfy, if there is one. -/
def nextSatisfies (o : Host.Outcome State Fault Refusal) (p : State → Bool) : Bool :=
  match o with
  | .next t => p t
  | .fault _ => false
  | .refused _ => false

/-- One step leads to a machine with this PSWR, these registers and these bytes. -/
def stepsTo (s : State) (psw : Option Nat) (regs : List (Nat × Nat)) (mem : List (Nat × List Nat)) : Bool :=
  nextSatisfies (step s) (isState psw regs mem)

/-! ## Ill-formed terms are refused -/

theorem test_illformed_lb_to_stb : ∀ i ∈ ([.lb 1 ⟨0, false, false, 0x2001⟩, .lh 1 ⟨0, false, false, 0x2002⟩, .lw 1 ⟨0, false, false, 0x2003⟩,
    .ld 1 ⟨0, false, false, 0x2000⟩, .lmb 1 ⟨0, false, false, 0x2001⟩, .lmh 1 ⟨0, false, false, 0x2002⟩,
    .lmw 1 ⟨0, false, false, 0x2003⟩, .lmd 1 ⟨0, false, false, 0x2000⟩, .lnb 1 ⟨0, false, false, 0x2001⟩,
    .lnh 1 ⟨0, false, false, 0x2002⟩, .lnw 1 ⟨0, false, false, 0x2003⟩, .lnd 1 ⟨0, false, false, 0x2000⟩,
    .stb 1 ⟨0, false, false, 0x2001⟩] : List Instr),
    i.wellFormed = false := by decide

theorem test_illformed_sth_to_admh : ∀ i ∈ ([.sth 1 ⟨0, false, false, 0x2002⟩, .stw 1 ⟨0, false, false, 0x2003⟩, .std 1 ⟨0, false, false, 0x2000⟩,
    .stmb 1 ⟨0, false, false, 0x2001⟩, .stmh 1 ⟨0, false, false, 0x2002⟩, .stmw 1 ⟨0, false, false, 0x2003⟩,
    .stmd 1 ⟨0, false, false, 0x2000⟩, .zmb ⟨0, false, false, 0x2001⟩, .zmh ⟨0, false, false, 0x2002⟩,
    .zmw ⟨0, false, false, 0x2003⟩, .zmd ⟨0, false, false, 0x2000⟩, .admb 1 ⟨0, false, false, 0x2001⟩,
    .admh 1 ⟨0, false, false, 0x2002⟩] : List Instr),
    i.wellFormed = false := by decide

theorem test_illformed_admw_to_mpmw : ∀ i ∈ ([.admw 1 ⟨0, false, false, 0x2003⟩, .admd 1 ⟨0, false, false, 0x2000⟩, .armb 1 ⟨0, false, false, 0x2001⟩,
    .armh 1 ⟨0, false, false, 0x2002⟩, .armw 1 ⟨0, false, false, 0x2003⟩, .armd 1 ⟨0, false, false, 0x2000⟩,
    .sumb 1 ⟨0, false, false, 0x2001⟩, .sumh 1 ⟨0, false, false, 0x2002⟩, .sumw 1 ⟨0, false, false, 0x2003⟩,
    .sumd 1 ⟨0, false, false, 0x2000⟩, .mpmb 1 ⟨0, false, false, 0x2001⟩, .mpmh 1 ⟨0, false, false, 0x2002⟩,
    .mpmw 1 ⟨0, false, false, 0x2001⟩] : List Instr),
    i.wellFormed = false := by decide

theorem test_illformed_dvmb_to_anmh : ∀ i ∈ ([.dvmb 1 ⟨0, false, false, 0x2001⟩, .dvmh 1 ⟨0, false, false, 0x2002⟩, .dvmw 1 ⟨0, false, false, 0x2001⟩,
    .adfw 1 ⟨0, true, true, 0x2002⟩, .adfd 1 ⟨0, true, false, 0x2002⟩, .sufw 1 ⟨0, true, true, 0x2000⟩,
    .sufd 1 ⟨0, true, false, 0x2000⟩, .mpfw 1 ⟨0, true, true, 0x2002⟩, .mpfd 1 ⟨0, true, false, 0x2002⟩,
    .dvfw 1 ⟨0, true, true, 0x2000⟩, .dvfd 1 ⟨0, true, false, 0x2000⟩, .anmb 1 ⟨0, false, false, 0x2001⟩,
    .anmh 1 ⟨0, false, false, 0x2002⟩] : List Instr),
    i.wellFormed = false := by decide

theorem test_illformed_anmw_to_camh : ∀ i ∈ ([.anmw 1 ⟨0, false, false, 0x2003⟩, .anmd 1 ⟨0, false, false, 0x2000⟩, .ormb 1 ⟨0, false, false, 0x2001⟩,
    .ormh 1 ⟨0, false, false, 0x2002⟩, .ormw 1 ⟨0, false, false, 0x2003⟩, .ormd 1 ⟨0, false, false, 0x2000⟩,
    .eomb 1 ⟨0, false, false, 0x2001⟩, .eomh 1 ⟨0, false, false, 0x2002⟩, .eomw 1 ⟨0, false, false, 0x2003⟩,
    .eomd 1 ⟨0, false, false, 0x2000⟩, .eor 3 3, .camb 1 ⟨0, false, false, 0x2001⟩,
    .camh 1 ⟨0, false, false, 0x2002⟩] : List Instr),
    i.wellFormed = false := by decide

theorem test_illformed_camw_to_bid : ∀ i ∈ ([.camw 1 ⟨0, false, false, 0x2003⟩, .camd 1 ⟨0, false, false, 0x2000⟩, .cmmb 1 ⟨0, false, false, 0x2001⟩,
    .cmmh 1 ⟨0, false, false, 0x2002⟩, .cmmw 1 ⟨0, false, false, 0x2003⟩, .cmmd 1 ⟨0, false, false, 0x2000⟩,
    .bct 0 ⟨0, false, false, 0x2000⟩, .bcf 0 ⟨0, false, false, 0x2000⟩, .bib 1 ⟨2, false, false, 0x2000⟩,
    .bih 1 ⟨2, false, false, 0x2000⟩, .biw 1 ⟨2, false, false, 0x2000⟩, .bid 1 ⟨2, false, false, 0x2000⟩] : List Instr),
    i.wellFormed = false := by decide

/-! ## Words of the spec decode to their instructions -/

/-- LB, the word of S1. -/
theorem test_decode_lb : decode [0xAC, 0x88, 0x11, 0x01] = .ok (.lb 1 ⟨0, false, true, 0x01101⟩) := by decide

/-- LH, the word of S3. -/
theorem test_decode_lh : decode [0xAE, 0x00, 0x05, 0x03] = .ok (.lh 4 ⟨0, false, false, 0x00503⟩) := by decide

/-- LW, the word of S4. -/
theorem test_decode_lw : decode [0xAF, 0x80, 0x27, 0xA4] = .ok (.lw 7 ⟨0, false, false, 0x027A4⟩) := by decide

/-- LD, the word of S5. -/
theorem test_decode_ld : decode [0xAF, 0x02, 0x8B, 0x7A] = .ok (.ld 6 ⟨0, false, false, 0x28B7A⟩) := by decide

/-- LMB, the word of S6. -/
theorem test_decode_lmb : decode [0xB0, 0x88, 0x00, 0xA3] = .ok (.lmb 1 ⟨0, false, true, 0x000A3⟩) := by decide

/-- LMH, the word of S7. -/
theorem test_decode_lmh : decode [0xB2, 0x80, 0x03, 0xA1] = .ok (.lmh 5 ⟨0, false, false, 0x003A1⟩) := by decide

/-- LMW, the word of S8. -/
theorem test_decode_lmw : decode [0xB3, 0x80, 0x0F, 0xFC] = .ok (.lmw 7 ⟨0, false, false, 0x00FFC⟩) := by decide

/-- LMD, the word of S9. -/
theorem test_decode_lmd : decode [0xB3, 0x00, 0x02, 0xF2] = .ok (.lmd 6 ⟨0, false, false, 0x002F2⟩) := by decide

/-- LNB, the word of S10. -/
theorem test_decode_lnb : decode [0xB4, 0x88, 0xD1, 0x02] = .ok (.lnb 1 ⟨0, false, true, 0x0D102⟩) := by decide

/-- LNH, the word of S11. -/
theorem test_decode_lnh : decode [0xB6, 0x00, 0x84, 0x03] = .ok (.lnh 4 ⟨0, false, false, 0x08403⟩) := by decide

/-- LNW, the word of S12. -/
theorem test_decode_lnw : decode [0xB6, 0x80, 0x06, 0xC8] = .ok (.lnw 5 ⟨0, false, false, 0x006C8⟩) := by decide

/-- LND, the word of S13. -/
theorem test_decode_lnd : decode [0xB5, 0x00, 0x24, 0xA2] = .ok (.lnd 2 ⟨0, false, false, 0x024A2⟩) := by decide

/-- LI, the word of S14. -/
theorem test_decode_li : decode [0xC8, 0x80, 0xF0, 0xB5] = .ok (.li 1 0xF0B5) := by decide

/-- LEA, the word of S15. -/
theorem test_decode_lea : decode [0xD0, 0x80, 0x40, 0x00] = .ok (.lea 1 ⟨0, false, false, 0x04000⟩) := by decide

/-- STB, the word of S19. -/
theorem test_decode_stb : decode [0xD4, 0x88, 0x3A, 0x13] = .ok (.stb 1 ⟨0, false, true, 0x03A13⟩) := by decide

/-- STH, the word of S20. -/
theorem test_decode_sth : decode [0xD6, 0x00, 0x83, 0x13] = .ok (.sth 4 ⟨0, false, false, 0x08313⟩) := by decide

/-- STW, the word of S21. -/
theorem test_decode_stw : decode [0xD7, 0x00, 0x3B, 0x3C] = .ok (.stw 6 ⟨0, false, false, 0x03B3C⟩) := by decide

/-- STD, the word of S22. -/
theorem test_decode_std : decode [0xD7, 0x00, 0x5C, 0x4A] = .ok (.std 6 ⟨0, false, false, 0x05C4A⟩) := by decide

/-- STMB, the word of S23. -/
theorem test_decode_stmb : decode [0xD8, 0x08, 0x1E, 0x91] = .ok (.stmb 0 ⟨0, false, true, 0x01E91⟩) := by decide

/-- STMH, the word of S24. -/
theorem test_decode_stmh : decode [0xDA, 0x80, 0x11, 0xAD] = .ok (.stmh 5 ⟨0, false, false, 0x011AD⟩) := by decide

/-- STMW, the word of S25. -/
theorem test_decode_stmw : decode [0xDB, 0x00, 0x43, 0x7C] = .ok (.stmw 6 ⟨0, false, false, 0x0437C⟩) := by decide

/-- STMD, the word of S26. -/
theorem test_decode_stmd : decode [0xDB, 0x00, 0xA6, 0x52] = .ok (.stmd 6 ⟨0, false, false, 0x0A652⟩) := by decide

/-- ZMB, the word of S28. -/
theorem test_decode_zmb : decode [0xF8, 0x08, 0x04, 0x9F] = .ok (.zmb ⟨0, false, true, 0x0049F⟩) := by decide

/-- ZMH, the word of S29. -/
theorem test_decode_zmh : decode [0xF8, 0x02, 0xA4, 0x27] = .ok (.zmh ⟨0, false, false, 0x2A427⟩) := by decide

/-- ZMW, the word of S30. -/
theorem test_decode_zmw : decode [0xF8, 0x00, 0x5F, 0x90] = .ok (.zmw ⟨0, false, false, 0x05F90⟩) := by decide

/-- ZMD, the word of S31. -/
theorem test_decode_zmd : decode [0xF8, 0x01, 0x5D, 0x6A] = .ok (.zmd ⟨0, false, false, 0x15D6A⟩) := by decide

/-- LCS, the word of S17. -/
theorem test_decode_lcs : decode [0x03, 0x83] = .ok (.lcs 7) := by decide

/-- LF, the word of S18. -/
theorem test_decode_lf : decode [0xCE, 0x00, 0x02, 0x00] = .ok (.lf 4 ⟨0, false, false, 0x00200⟩) := by decide

/-- STF, the word of S27. -/
theorem test_decode_stf : decode [0xDE, 0x00, 0x21, 0x00] = .ok (.stf 4 ⟨0, false, false, 0x02100⟩) := by decide

/-- ZR, the word of S32. -/
theorem test_decode_zr : decode [0x0C, 0x90] = .ok (.zr 1) := by decide

/-- ADMB, the word of S33. -/
theorem test_decode_admb : decode [0xBA, 0x08, 0x09, 0x15] = .ok (.admb 4 ⟨0, false, true, 0x00915⟩) := by decide

/-- ADMH, the word of S34. -/
theorem test_decode_admh : decode [0xBB, 0x84, 0x10, 0x97] = .ok (.admh 7 ⟨0, false, false, 0x41097⟩) := by decide

/-- ADMW, the word of S35. -/
theorem test_decode_admw : decode [0xBB, 0x00, 0x11, 0xAC] = .ok (.admw 6 ⟨0, false, false, 0x011AC⟩) := by decide

/-- ADMD, the word of S36. -/
theorem test_decode_admd : decode [0xBA, 0x00, 0x92, 0x52] = .ok (.admd 4 ⟨0, false, false, 0x09252⟩) := by decide

/-- ADR, the word of S37. -/
theorem test_decode_adr : decode [0x3B, 0x70] = .ok (.adr 6 7) := by decide

/-- ADRM, the word of S38. -/
theorem test_decode_adrm : decode [0x3B, 0x78] = .ok (.adrm 6 7) := by decide

/-- ARMB, the word of S39. -/
theorem test_decode_armb : decode [0xEB, 0x08, 0x1A, 0x97] = .ok (.armb 6 ⟨0, false, true, 0x01A97⟩) := by decide

/-- ARMH, the word of S40. -/
theorem test_decode_armh : decode [0xEA, 0x82, 0x09, 0x19] = .ok (.armh 5 ⟨0, false, false, 0x20919⟩) := by decide

/-- ARMW, the word of S41. -/
theorem test_decode_armw : decode [0xEB, 0x80, 0x31, 0x00] = .ok (.armw 7 ⟨0, false, false, 0x03100⟩) := by decide

/-- ARMD, the word of S42. -/
theorem test_decode_armd : decode [0xEB, 0x00, 0x83, 0xAA] = .ok (.armd 6 ⟨0, false, false, 0x083AA⟩) := by decide

/-- ADI, the word of S43. -/
theorem test_decode_adi : decode [0xC8, 0x01, 0x86, 0xB2] = .ok (.adi 0 0x86B2) := by decide

/-- SUMB, the word of S44. -/
theorem test_decode_sumb : decode [0xBC, 0x88, 0x12, 0x01] = .ok (.sumb 1 ⟨0, false, true, 0x01201⟩) := by decide

/-- SUMH, the word of S45. -/
theorem test_decode_sumh : decode [0xBF, 0x00, 0x18, 0x77] = .ok (.sumh 6 ⟨0, false, false, 0x01877⟩) := by decide

/-- SUMW, the word of S46. -/
theorem test_decode_sumw : decode [0xBC, 0x86, 0xF9, 0x14] = .ok (.sumw 1 ⟨0, false, false, 0x6F914⟩) := by decide

/-- SUMD, the word of S47. -/
theorem test_decode_sumd : decode [0xBF, 0x00, 0x31, 0x02] = .ok (.sumd 6 ⟨0, false, false, 0x03102⟩) := by decide

/-- SUR, the word of S48. -/
theorem test_decode_sur : decode [0x3C, 0xA0] = .ok (.sur 1 2) := by decide

/-- SURM, the word of S49. -/
theorem test_decode_surm : decode [0x3F, 0x58] = .ok (.surm 6 5) := by decide

/-- SUI, the word of S50. -/
theorem test_decode_sui : decode [0xCB, 0x82, 0x83, 0x9A] = .ok (.sui 7 0x839A) := by decide

/-- MPMB, the word of S51. -/
theorem test_decode_mpmb : decode [0xC0, 0x0A, 0xC3, 0xD9] = .ok (.mpmb 0 ⟨0, false, true, 0x2C3D9⟩) := by decide

/-- MPMH, the word of S52. -/
theorem test_decode_mpmh : decode [0xC1, 0x00, 0x9B, 0x57] = .ok (.mpmh 2 ⟨0, false, false, 0x09B57⟩) := by decide

/-- MPMW, the word of S53. -/
theorem test_decode_mpmw : decode [0xC3, 0x00, 0x4B, 0x1C] = .ok (.mpmw 6 ⟨0, false, false, 0x04B1C⟩) := by decide

/-- MPR, the word of S54. -/
theorem test_decode_mpr : decode [0x40, 0x10] = .ok (.mpr 0 1) := by decide

/-- MPI, the word of S55. -/
theorem test_decode_mpi : decode [0xCB, 0x03, 0x01, 0x00] = .ok (.mpi 6 0x100) := by decide

/-- DVMB, the word of S56. -/
theorem test_decode_dvmb : decode [0xC4, 0x08, 0x30, 0xBF] = .ok (.dvmb 0 ⟨0, false, true, 0x030BF⟩) := by decide

/-- DVMH, the word of S57. -/
theorem test_decode_dvmh : decode [0xC7, 0x00, 0x5D, 0x6B] = .ok (.dvmh 6 ⟨0, false, false, 0x05D6B⟩) := by decide

/-- DVMW, the word of S58. -/
theorem test_decode_dvmw : decode [0xC6, 0x00, 0x7B, 0x5C] = .ok (.dvmw 4 ⟨0, false, false, 0x07B5C⟩) := by decide

/-- DVR, the word of S59. -/
theorem test_decode_dvr : decode [0x47, 0x20] = .ok (.dvr 6 2) := by decide

/-- DVI, the word of S60. -/
theorem test_decode_dvi : decode [0xC9, 0x04, 0xFF, 0xFD] = .ok (.dvi 2 0xFFFD) := by decide

/-- ES, the word of S61. -/
theorem test_decode_es : decode [0x00, 0x84] = .ok (.es 1) := by decide

/-- RND, the word of S62. -/
theorem test_decode_rnd : decode [0x03, 0x75] = .ok (.rnd 6) := by decide

/-- ADFW, the word of V68. -/
theorem test_decode_adfw : decode [0xE0, 0x88, 0x20, 0x00] = .ok (.adfw 1 ⟨0, false, true, 0x02000⟩) := by decide

/-- ADFD, the word of V88. -/
theorem test_decode_adfd : decode [0xE1, 0x08, 0x20, 0x02] = .ok (.adfd 2 ⟨0, false, true, 0x02002⟩) := by decide

/-- SUFW, the word of V77. -/
theorem test_decode_sufw : decode [0xE0, 0x80, 0x20, 0x00] = .ok (.sufw 1 ⟨0, false, false, 0x02000⟩) := by decide

/-- SUFD, the word of V91. -/
theorem test_decode_sufd : decode [0xE1, 0x00, 0x20, 0x02] = .ok (.sufd 2 ⟨0, false, false, 0x02002⟩) := by decide

/-- MPFW, the word of V79. -/
theorem test_decode_mpfw : decode [0xE4, 0x88, 0x20, 0x00] = .ok (.mpfw 1 ⟨0, false, true, 0x02000⟩) := by decide

/-- MPFD, the word of V92. -/
theorem test_decode_mpfd : decode [0xE5, 0x08, 0x20, 0x02] = .ok (.mpfd 2 ⟨0, false, true, 0x02002⟩) := by decide

/-- DVFW, the word of V85. -/
theorem test_decode_dvfw : decode [0xE4, 0x80, 0x20, 0x00] = .ok (.dvfw 1 ⟨0, false, false, 0x02000⟩) := by decide

/-- DVFD, the word of V93. -/
theorem test_decode_dvfd : decode [0xE5, 0x00, 0x20, 0x02] = .ok (.dvfd 2 ⟨0, false, false, 0x02002⟩) := by decide

/-- ANMB, the word of S63. -/
theorem test_decode_anmb : decode [0x84, 0x88, 0x03, 0x73] = .ok (.anmb 1 ⟨0, false, true, 0x00373⟩) := by decide

/-- ANMH, the word of S64. -/
theorem test_decode_anmh : decode [0x87, 0x00, 0x12, 0xA3] = .ok (.anmh 6 ⟨0, false, false, 0x012A3⟩) := by decide

/-- ANMW, the word of V98. -/
theorem test_decode_anmw : decode [0x84, 0x80, 0x20, 0x00] = .ok (.anmw 1 ⟨0, false, false, 0x02000⟩) := by decide

/-- ANMD, the word of S65. -/
theorem test_decode_anmd : decode [0x86, 0x00, 0x08, 0x1A] = .ok (.anmd 4 ⟨0, false, false, 0x0081A⟩) := by decide

/-- ANR, the word of S66. -/
theorem test_decode_anr : decode [0x04, 0xF0] = .ok (.anr 1 7) := by decide

/-- ORMB, the word of S67. -/
theorem test_decode_ormb : decode [0x88, 0x88, 0x08, 0xA3] = .ok (.ormb 1 ⟨0, false, true, 0x008A3⟩) := by decide

/-- ORMH, the word of S68. -/
theorem test_decode_ormh : decode [0x8B, 0x00, 0x19, 0x45] = .ok (.ormh 6 ⟨0, false, false, 0x01945⟩) := by decide

/-- ORMW, the word of S69. -/
theorem test_decode_ormw : decode [0x89, 0x80, 0x52, 0x0C] = .ok (.ormw 3 ⟨0, false, false, 0x0520C⟩) := by decide

/-- ORMD, the word of S70. -/
theorem test_decode_ormd : decode [0x8B, 0x00, 0x0C, 0x32] = .ok (.ormd 6 ⟨0, false, false, 0x00C32⟩) := by decide

/-- ORR, the word of S71. -/
theorem test_decode_orr : decode [0x08, 0xA0] = .ok (.orr 1 2) := by decide

/-- ORRM, the word of S72. -/
theorem test_decode_orrm : decode [0x0B, 0x58] = .ok (.orrm 6 5) := by decide

/-- EOMB, the word of S73. -/
theorem test_decode_eomb : decode [0x8C, 0x08, 0x13, 0xA1] = .ok (.eomb 0 ⟨0, false, true, 0x013A1⟩) := by decide

/-- EOMH, the word of S74. -/
theorem test_decode_eomh : decode [0x8E, 0x80, 0x0A, 0x41] = .ok (.eomh 5 ⟨0, false, false, 0x00A41⟩) := by decide

/-- EOMW, the word of S75. -/
theorem test_decode_eomw : decode [0x8F, 0x81, 0x86, 0x94] = .ok (.eomw 7 ⟨0, false, false, 0x18694⟩) := by decide

/-- EOMD, the word of S76. -/
theorem test_decode_eomd : decode [0x8F, 0x00, 0x05, 0x3A] = .ok (.eomd 6 ⟨0, false, false, 0x0053A⟩) := by decide

/-- EOR, the word of S77. -/
theorem test_decode_eor : decode [0x0F, 0xE0] = .ok (.eor 7 6) := by decide

/-- EORM, the word of S78. -/
theorem test_decode_eorm : decode [0x0F, 0xE8] = .ok (.eorm 7 6) := by decide

/-- SBM, the word of S79. -/
theorem test_decode_sbm : decode [0x98, 0x88, 0x14, 0x03] = .ok (.sbm 1 ⟨0, false, true, 0x01403⟩) := by decide

/-- SBR, the word of S80. -/
theorem test_decode_sbr : decode [0x1B, 0x82] = .ok (.sbr 7 0 2) := by decide

/-- ZBM, the word of S81. -/
theorem test_decode_zbm : decode [0x9E, 0x8A, 0x01, 0x22] = .ok (.zbm 5 ⟨0, false, true, 0x20122⟩) := by decide

/-- ZBR, the word of S82. -/
theorem test_decode_zbr : decode [0x1C, 0x51] = .ok (.zbr 0 5 1) := by decide

/-- ABM, the word of S85. -/
theorem test_decode_abm : decode [0xA2, 0x08, 0x31, 0x92] = .ok (.abm 4 ⟨0, false, true, 0x03192⟩) := by decide

/-- ABR, the word of S86. -/
theorem test_decode_abr : decode [0x21, 0x61] = .ok (.abr 2 6 1) := by decide

/-- TBM, the word of S83. -/
theorem test_decode_tbm : decode [0xA6, 0x08, 0x5B, 0x21] = .ok (.tbm 4 ⟨0, false, true, 0x05B21⟩) := by decide

/-- TBR, the word of S84. -/
theorem test_decode_tbr : decode [0x25, 0xD3] = .ok (.tbr 3 5 3) := by decide

/-- CAMB, the word of S87. -/
theorem test_decode_camb : decode [0x90, 0x88, 0x10, 0xB5] = .ok (.camb 1 ⟨0, false, true, 0x010B5⟩) := by decide

/-- CAMH, the word of S88. -/
theorem test_decode_camh : decode [0x92, 0x00, 0x39, 0x77] = .ok (.camh 4 ⟨0, false, false, 0x03977⟩) := by decide

/-- CAMW, the word of S89. -/
theorem test_decode_camw : decode [0x93, 0x00, 0x5C, 0x78] = .ok (.camw 6 ⟨0, false, false, 0x05C78⟩) := by decide

/-- CAMD, the word of S90. -/
theorem test_decode_camd : decode [0x92, 0x02, 0x7F, 0x52] = .ok (.camd 4 ⟨0, false, false, 0x27F52⟩) := by decide

/-- CAR, the word of S91. -/
theorem test_decode_car : decode [0x10, 0x10] = .ok (.car 0 1) := by decide

/-- CI, the word of S92. -/
theorem test_decode_ci : decode [0xC8, 0x85, 0x71, 0xA2] = .ok (.ci 1 0x71A2) := by decide

/-- CMMB, the word of S93. -/
theorem test_decode_cmmb : decode [0x94, 0x08, 0x09, 0x17] = .ok (.cmmb 0 ⟨0, false, true, 0x00917⟩) := by decide

/-- CMMH, the word of S94. -/
theorem test_decode_cmmh : decode [0x95, 0x00, 0x62, 0x93] = .ok (.cmmh 2 ⟨0, false, false, 0x06293⟩) := by decide

/-- CMMW, the word of S95. -/
theorem test_decode_cmmw : decode [0x97, 0x01, 0x3C, 0x94] = .ok (.cmmw 6 ⟨0, false, false, 0x13C94⟩) := by decide

/-- CMMD, the word of S96. -/
theorem test_decode_cmmd : decode [0x97, 0x00, 0x31, 0xBA] = .ok (.cmmd 6 ⟨0, false, false, 0x031BA⟩) := by decide

/-- CMR, the word of S97. -/
theorem test_decode_cmr : decode [0x14, 0xA0] = .ok (.cmr 1 2) := by decide

/-- BU, the word of S98. -/
theorem test_decode_bu : decode [0xEC, 0x00, 0x14, 0x12] = .ok (.bu ⟨0, false, false, 0x01412⟩) := by decide

/-- BCT, the word of S100. -/
theorem test_decode_bct : decode [0xEC, 0x80, 0x14, 0x12] = .ok (.bct 1 ⟨0, false, false, 0x01412⟩) := by decide

/-- BCF, the word of S101. -/
theorem test_decode_bcf : decode [0xF1, 0x00, 0x21, 0x4C] = .ok (.bcf 2 ⟨0, false, false, 0x0214C⟩) := by decide

/-- BFT, the word of S102. -/
theorem test_decode_bft : decode [0xF0, 0x00, 0x20, 0x00] = .ok (.bft ⟨0, false, false, 0x02000⟩) := by decide

/-- BL, the word of S103. -/
theorem test_decode_bl : decode [0xF8, 0x80, 0xA3, 0x78] = .ok (.bl ⟨0, false, false, 0x0A378⟩) := by decide

/-- BIB, the word of S104. -/
theorem test_decode_bib : decode [0xF4, 0x01, 0xB1, 0xA8] = .ok (.bib 0 ⟨0, false, false, 0x1B1A8⟩) := by decide

/-- BIH, the word of S105. -/
theorem test_decode_bih : decode [0xF5, 0x20, 0x39, 0x48] = .ok (.bih 2 ⟨0, false, false, 0x03948⟩) := by decide

/-- BIW, the word of S106. -/
theorem test_decode_biw : decode [0xF7, 0x40, 0x4B, 0x2C] = .ok (.biw 6 ⟨0, false, false, 0x04B2C⟩) := by decide

/-- BID, the word of S107. -/
theorem test_decode_bid : decode [0xF5, 0xE0, 0x91, 0xA6] = .ok (.bid 3 ⟨0, false, false, 0x091A6⟩) := by decide

/-- BRI, the word of S108. -/
theorem test_decode_bri : decode [0xF9, 0x10, 0x81, 0x3C] = .ok (.bri ⟨0, true, false, 0x0813C⟩) := by decide

/-- TRR, the word of S109. -/
theorem test_decode_trr : decode [0x2C, 0xA0] = .ok (.trr 1 2) := by decide

/-- TRRM, the word of S110. -/
theorem test_decode_trrm : decode [0x2C, 0xA8] = .ok (.trrm 1 2) := by decide

/-- TRN, the word of S111. -/
theorem test_decode_trn : decode [0x2F, 0xE4] = .ok (.trn 7 6) := by decide

/-- TRNM, the word of S112. -/
theorem test_decode_trnm : decode [0x2F, 0xEC] = .ok (.trnm 7 6) := by decide

/-- XCR, the word of S115. -/
theorem test_decode_xcr : decode [0x2C, 0xA5] = .ok (.xcr 1 2) := by decide

/-- XCRM, the word of S116. -/
theorem test_decode_xcrm : decode [0x2C, 0xAD] = .ok (.xcrm 1 2) := by decide

/-- TRC, the word of S113. -/
theorem test_decode_trc : decode [0x2F, 0xE3] = .ok (.trc 7 6) := by decide

/-- TRCM, the word of S114. -/
theorem test_decode_trcm : decode [0x2F, 0xEB] = .ok (.trcm 7 6) := by decide

/-- TRP, the word of S117. -/
theorem test_decode_trp : decode [0xFB, 0x0F, 0x00, 0x00] = .ok (.trp 1 7) := by decide

/-- TPR, the word of S118. -/
theorem test_decode_tpr : decode [0xFB, 0x8F, 0x00, 0x00] = .ok (.tpr 1 7) := by decide

/-- TRSW, the word of S119. -/
theorem test_decode_trsw : decode [0x28, 0x00] = .ok (.trsw 0) := by decide

/-- NOR, the word of S120. -/
theorem test_decode_nor : decode [0x63, 0x10] = .ok (.nor 6 1) := by decide

/-- NORD, the word of S121. -/
theorem test_decode_nord : decode [0x67, 0x10] = .ok (.nord 6 1) := by decide

/-- SCZ, the word of S122. -/
theorem test_decode_scz : decode [0x6A, 0x20] = .ok (.scz 4 2) := by decide

/-- SLA, the word of S123. -/
theorem test_decode_sla : decode [0x6F, 0x4C] = .ok (.sla 6 12) := by decide

/-- SLL, the word of S125. -/
theorem test_decode_sll : decode [0x73, 0xD4] = .ok (.sll 7 20) := by decide

/-- SLC, the word of S126. -/
theorem test_decode_slc : decode [0x77, 0xD0] = .ok (.slc 7 16) := by decide

/-- SLAD, the word of S127. -/
theorem test_decode_slad : decode [0x7A, 0x58] = .ok (.slad 4 24) := by decide

/-- SLLD, the word of S128. -/
theorem test_decode_slld : decode [0x7F, 0x58] = .ok (.slld 6 24) := by decide

/-- SRA, the word of S129. -/
theorem test_decode_sra : decode [0x6E, 0x0A] = .ok (.sra 4 10) := by decide

/-- SRL, the word of S130. -/
theorem test_decode_srl : decode [0x72, 0x0A] = .ok (.srl 4 10) := by decide

/-- SRC, the word of S131. -/
theorem test_decode_src : decode [0x76, 0x0C] = .ok (.src 4 12) := by decide

/-- SRAD, the word of S132. -/
theorem test_decode_srad : decode [0x7B, 0x18] = .ok (.srad 6 24) := by decide

/-- SRLD, the word of S133. -/
theorem test_decode_srld : decode [0x7F, 0x18] = .ok (.srld 6 24) := by decide

/-- EXR, the word of V170. -/
theorem test_decode_exr : decode [0xC8, 0x87, 0x00, 0x00] = .ok (.exr 1) := by decide

/-- EXRR, the word of V175. -/
theorem test_decode_exrr : decode [0xC8, 0x87, 0x00, 0x02] = .ok (.exrr 1) := by decide

/-- EXM, the word of V178. -/
theorem test_decode_exm : decode [0xA8, 0x00, 0x15, 0x00] = .ok (.exm ⟨0, false, false, 0x01500⟩) := by decide

/-- HALT, the word of V181. -/
theorem test_decode_halt : decode [0x00, 0x00] = .ok (.halt) := by decide

/-- WAIT, the word of V182. -/
theorem test_decode_wait : decode [0x00, 0x01] = .ok (.wait) := by decide

/-- NOP, the word of V183. -/
theorem test_decode_nop : decode [0x00, 0x02] = .ok (.nop) := by decide

/-- CALM, the word of V184. -/
theorem test_decode_calm : decode [0x31, 0x55] = .ok (.calm 0x155) := by decide

/-- EI, the word of V186. -/
theorem test_decode_ei : decode [0xFD, 0x80, 0x00, 0x00] = .ok (.ei 0x30) := by decide

/-- DI, the word of V188. -/
theorem test_decode_di : decode [0xFD, 0x81, 0x00, 0x00] = .ok (.di 0x30) := by decide

/-- RI, the word of V186. -/
theorem test_decode_ri : decode [0xFD, 0x82, 0x00, 0x00] = .ok (.ri 0x30) := by decide

/-- AI, the word of V189. -/
theorem test_decode_ai : decode [0xFD, 0x53, 0x00, 0x00] = .ok (.ai 0x2A) := by decide

/-- DAI, the word of V189. -/
theorem test_decode_dai : decode [0xFD, 0x54, 0x00, 0x00] = .ok (.dai 0x2A) := by decide

/-- CD, the word of V193. -/
theorem test_decode_cd : decode [0xFC, 0xAE, 0x80, 0x00] = .ok (.cd 0x15 0x8000) := by decide

/-- TD, the word of V192. -/
theorem test_decode_td : decode [0xFC, 0xAD, 0x80, 0x00] = .ok (.td 0x15 0x8000) := by decide

/-- An operation code Appendix F does not assign, a word cut short and no bytes are refused (30_encoding.md R121). -/
theorem test_decode_refused : decode [0x34, 0x00, 0x00, 0x00] = .error .undefinedCode ∧
    decode [0x00, 0x06, 0x00, 0x00] = .error .undefinedCode ∧ decode [0xAC, 0x88] = .error .wordCutShort ∧
    decode [0xAC] = .error .tooShort := by decide

/-! ## One step of each instruction -/

/-- LB, S1. -/
theorem test_step_lb :
    stepsTo (bench 0x00001000 [(1, 0x517CD092)]
      [(0x1000, [0xAC, 0x88, 0x11, 0x01]), (0x1101, [0xB6])]) (some 0x20001004)
      [(1, 0xB6)] [] = true := by decide +kernel

/-- LH, S3. -/
theorem test_step_lh :
    stepsTo (bench 0x00000408 [(4, 0x5C00D34A)]
      [(0x408, [0xAE, 0x00, 0x05, 0x03]), (0x502, [0x93, 0x0C])]) (some 0x1000040C)
      [(4, 0xFFFF930C)] [] = true := by decide +kernel

/-- LW, S4. -/
theorem test_step_lw :
    stepsTo (bench 0x00002390 [(7, 0x56879A)]
      [(0x2390, [0xAF, 0x80, 0x27, 0xA4]), (0x27A4, [0x4D, 0x61, 0xA2, 0x8C])]) (some 0x20002394)
      [(7, 0x4D61A28C)] [] = true := by decide +kernel

/-- LD, S5. -/
theorem test_step_ld :
    stepsTo (bench 0x400281C4 [(6, 0x3F609C3), (7, 0x39BB510E)]
      [(0x281C4, [0xAF, 0x02, 0x8B, 0x7A]), (0x28B78, [0xF0, 0x5B, 0x16, 0x9A]),
        (0x28B7C, [0x13, 0x7F, 0x8C, 0xA2])]) (some 0x100281C8)
      [(6, 0xF05B169A), (7, 0x137F8CA2)] [] = true := by decide +kernel

/-- LMB, S6. -/
theorem test_step_lmb :
    stepsTo (bench 0x00000900 [(1, 0xAA3689B0), (4, 0xF0)]
      [(0x900, [0xB0, 0x88, 0x00, 0xA3]), (0xA3, [0x29])]) (some 0x20000904)
      [(1, 0x20), (4, 0xF0)] [] = true := by decide +kernel

/-- LMH, S7. -/
theorem test_step_lmh :
    stepsTo (bench 0x08000300 [(4, 0xFF00FF0), (5, 0xC427B319)]
      [(0x300, [0xB2, 0x80, 0x03, 0xA1]), (0x3A0, [0xA5, 0x8D])]) (some 0x20000304)
      [(4, 0xFF00FF0), (5, 0xFF00580)] [] = true := by decide +kernel

/-- LMW, S8. -/
theorem test_step_lmw :
    stepsTo (bench 0x00000F00 [(4, 0xFF00007C)]
      [(0xF00, [0xB3, 0x80, 0x0F, 0xFC]), (0xFFC, [0x89, 0x23, 0xF8, 0xE8])]) (some 0x10000F04)
      [(4, 0xFF00007C), (7, 0x89000068)] [] = true := by decide +kernel

/-- LMD, S9. -/
theorem test_step_lmd :
    stepsTo (bench 0x00000200 [(4, 0x3F3F3F3F)]
      [(0x200, [0xB3, 0x00, 0x02, 0xF2]), (0x2F0, [0xAE, 0x69, 0xD1, 0x0C]),
        (0x2F4, [0x63, 0xB2, 0x08, 0xF0])]) (some 0x20000204)
      [(4, 0x3F3F3F3F), (6, 0x2E29110C), (7, 0x23320830)] [] = true := by decide +kernel

/-- LNB, S10. -/
theorem test_step_lnb :
    stepsTo (bench 0x0000D000 []
      [(0xD000, [0xB4, 0x88, 0xD1, 0x02]), (0xD102, [0x3A])]) (some 0x1000D004)
      [(1, 0xFFFFFFC6)] [] = true := by decide +kernel

/-- LNH, S11. -/
theorem test_step_lnh :
    stepsTo (bench 0x40008000 []
      [(0x8000, [0xB6, 0x00, 0x84, 0x03]), (0x8402, [0x96, 0x0C])]) (some 0x20008004)
      [(4, 0x69F4)] [] = true := by decide +kernel

/-- LNW, S12. -/
theorem test_step_lnw :
    stepsTo (bench 0x08000500 []
      [(0x500, [0xB6, 0x80, 0x06, 0xC8]), (0x6C8, [0x18, 0x5E, 0x0D, 0x76])]) (some 0x10000504)
      [(5, 0xE7A1F28A)] [] = true := by decide +kernel

/-- LND, S13. -/
theorem test_step_lnd :
    stepsTo (bench 0x00002344 []
      [(0x2344, [0xB5, 0x00, 0x24, 0xA2]), (0x24A0, [0x00, 0x00, 0x00, 0x00]),
        (0x24A4, [0x00, 0x00, 0x00, 0x01])]) (some 0x10002348)
      [(2, 0xFFFFFFFF), (3, 0xFFFFFFFF)] [] = true := by decide +kernel

/-- LI, S14. -/
theorem test_step_li :
    stepsTo (bench 0x0000630C []
      [(0x630C, [0xC8, 0x80, 0xF0, 0xB5])]) (some 0x10006310)
      [(1, 0xFFFFF0B5)] [] = true := by decide +kernel

/-- LEA, S16: the program count and condition code, and the effective address that goes to bits 12 to 31. -/
theorem test_step_lea :
    nextSatisfies (step (bench 0x00002000 [] [(0x2000, [0xD0, 0x90, 0x40, 0x00]),
        (0x4000, [0xAC, 0x88, 0x12, 0x03])]))
      (fun t => t.psw.word == 0x00002004#32) = true ∧
    (effAddr (bench 0x00002000 [] [(0x4000, [0xAC, 0x88, 0x12, 0x03])]) ⟨0, true, false,
        0x04000⟩).toOption.map Prod.fst =
      some ⟨true, 3, 0x01203, some 0xAC881203⟩ := ⟨by decide +kernel, rfl⟩

/-- STB, S19. -/
theorem test_step_stb :
    stepsTo (bench 0x10003708 [(1, 0x1020304)]
      [(0x3708, [0xD4, 0x88, 0x3A, 0x13]), (0x3A13, [0x78])]) (some 0x1000370C)
      [(1, 0x1020304)] [(0x3A13, [0x04])] = true := by decide +kernel

/-- STH, S20. -/
theorem test_step_sth :
    stepsTo (bench 0x000082A4 [(4, 0x1020304)]
      [(0x82A4, [0xD6, 0x00, 0x83, 0x13]), (0x8312, [0xA4, 0x9C])]) (some 0x000082A8)
      [(4, 0x1020304)] [(0x8312, [0x03, 0x04])] = true := by decide +kernel

/-- STW, S21. -/
theorem test_step_stw :
    stepsTo (bench 0x10003904 [(6, 0x485A276)]
      [(0x3904, [0xD7, 0x00, 0x3B, 0x3C])]) (some 0x10003908)
      [(6, 0x485A276)] [(0x3B3C, [0x04, 0x85, 0xA2, 0x76])] = true := by decide +kernel

/-- STD, S22. -/
theorem test_step_std :
    stepsTo (bench 0x2000596C [(6, 0xE24675C2), (7, 0x5923F8E8)]
      [(0x596C, [0xD7, 0x00, 0x5C, 0x4A]), (0x5C48, [0x0A, 0x40, 0x07, 0x29]),
        (0x5C4C, [0x81, 0x04, 0xA2, 0x53])]) (some 0x20005970)
      [(6, 0xE24675C2), (7, 0x5923F8E8)] [(0x5C48, [0xE2, 0x46, 0x75, 0xC2]),
        (0x5C4C, [0x59, 0x23, 0xF8, 0xE8])] = true := by decide +kernel

/-- STMB, S23. -/
theorem test_step_stmb :
    stepsTo (bench 0x10001D80 [(0, 0xAC089417), (4, 0xFFFC)]
      [(0x1D80, [0xD8, 0x08, 0x1E, 0x91]), (0x1E91, [0x94])]) (some 0x10001D84)
      [(0, 0xAC089417), (4, 0xFFFC)] [(0x1E91, [0x14])] = true := by decide +kernel

/-- STMH, S24. -/
theorem test_step_stmh :
    stepsTo (bench 0x20001000 [(4, 0x3FFC), (5, 0x716A58AB)]
      [(0x1000, [0xDA, 0x80, 0x11, 0xAD]), (0x11AC, [0x00, 0x00])]) (some 0x20001004)
      [(4, 0x3FFC), (5, 0x716A58AB)] [(0x11AC, [0x18, 0xA8])] = true := by decide +kernel

/-- STMW, S25. -/
theorem test_step_stmw :
    stepsTo (bench 0x08004000 [(4, 0xFF00FF), (6, 0x718C3594)]
      [(0x4000, [0xDB, 0x00, 0x43, 0x7C]), (0x437C, [0x12, 0x34, 0x56, 0x78])]) (some 0x08004004)
      [(4, 0xFF00FF), (6, 0x718C3594)] [(0x437C, [0x00, 0x8C, 0x00, 0x94])] = true := by decide +kernel

/-- STMD, S26. -/
theorem test_step_stmd :
    stepsTo (bench 0x1000A498 [(4, 0x7FFFC), (6, 0xAC88A819), (7, 0x988B1407)]
      [(0xA498, [0xDB, 0x00, 0xA6, 0x52]), (0xA650, [0x05, 0x1C, 0xD0, 0x92]),
        (0xA654, [0xAE, 0x69, 0xD1, 0x0C])]) (some 0x1000A49C)
      [(4, 0x7FFFC), (6, 0xAC88A819), (7, 0x988B1407)] [(0xA650, [0x00, 0x00, 0xA8, 0x18]),
        (0xA654, [0x00, 0x03, 0x14, 0x04])] = true := by decide +kernel

/-- ZMB, S28. -/
theorem test_step_zmb :
    stepsTo (bench 0x10000308 []
      [(0x308, [0xF8, 0x08, 0x04, 0x9F]), (0x49F, [0x6C])]) (some 0x1000030C)
      [] [(0x49F, [0x00])] = true := by decide +kernel

/-- ZMH, S29. -/
theorem test_step_zmh :
    stepsTo (bench 0x0802895C []
      [(0x2895C, [0xF8, 0x02, 0xA4, 0x27]), (0x2A426, [0x9A, 0xE3])]) (some 0x08028960)
      [] [(0x2A426, [0x00, 0x00])] = true := by decide +kernel

/-- ZMW, S30. -/
theorem test_step_zmw :
    stepsTo (bench 0x00005A14 []
      [(0x5A14, [0xF8, 0x00, 0x5F, 0x90]), (0x5F90, [0x12, 0x34, 0x56, 0x78])]) (some 0x00005A18)
      [] [(0x5F90, [0x00, 0x00, 0x00, 0x00])] = true := by decide +kernel

/-- ZMD, S31. -/
theorem test_step_zmd :
    stepsTo (bench 0x10015B3C []
      [(0x15B3C, [0xF8, 0x01, 0x5D, 0x6A]), (0x15D68, [0x11, 0x11, 0x11, 0x11]),
        (0x15D6C, [0x22, 0x22, 0x22, 0x22])]) (some 0x10015B40)
      [] [(0x15D68, [0x00, 0x00, 0x00, 0x00]), (0x15D6C, [0x00, 0x00, 0x00, 0x00])] = true := by decide +kernel

/-- LF, S18. -/
theorem test_step_lf :
    stepsTo (bench 0x08000300 []
      [(0x300, [0xCE, 0x00, 0x02, 0x00]), (0x200, [0x00, 0x00, 0x00, 0x01]), (0x204, [0x00, 0x00, 0x00, 0x02]),
        (0x208, [0x00, 0x00, 0x00, 0x03]), (0x20C, [0x00, 0x00, 0x00, 0x04])]) (some 0x08000304)
      [(4, 0x1), (5, 0x2), (6, 0x3), (7, 0x4)] [] = true := by decide +kernel

/-- STF, S27. -/
theorem test_step_stf :
    stepsTo (bench 0x40002000 [(4, 0x11111111), (5, 0x22222222), (6, 0x33333333), (7, 0x44444444)]
      [(0x2000, [0xDE, 0x00, 0x21, 0x00])]) (some 0x40002004)
      [(4, 0x11111111), (5, 0x22222222), (6, 0x33333333), (7, 0x44444444)] [(0x2100, [0x11, 0x11, 0x11, 0x11]),
        (0x2104, [0x22, 0x22, 0x22, 0x22]), (0x2108, [0x33, 0x33, 0x33, 0x33]),
        (0x210C, [0x44, 0x44, 0x44, 0x44])] = true := by decide +kernel

/-- ZR, S32. -/
theorem test_step_zr :
    stepsTo (bench 0x100309A6 [(1, 0x8495A6B7)]
      [(0x309A6, [0x0C, 0x90])]) (some 0x080309A8)
      [(1, 0x0)] [] = true := by decide +kernel

/-- ADMB, S33. -/
theorem test_step_admb :
    stepsTo (bench 0x10000800 [(4, 0x99)]
      [(0x800, [0xBA, 0x08, 0x09, 0x15]), (0x915, [0x8A])]) (some 0x20000804)
      [(4, 0x123)] [] = true := by decide +kernel

/-- ADMH, S34. -/
theorem test_step_admh :
    stepsTo (bench 0x20040D68 [(7, 0x6C4)]
      [(0x40D68, [0xBB, 0x84, 0x10, 0x97]), (0x41096, [0x8C, 0x42])]) (some 0x10040D6C)
      [(7, 0xFFFF9306)] [] = true := by decide +kernel

/-- ADMW, S35. -/
theorem test_step_admw :
    stepsTo (bench 0x40000D50 [(6, 0x37C1F3)]
      [(0xD50, [0xBB, 0x00, 0x11, 0xAC]), (0x11AC, [0x00, 0x4F, 0xC2, 0x76])]) (some 0x20000D54)
      [(6, 0x878469)] [] = true := by decide +kernel

/-- ADMD, S36. -/
theorem test_step_admd :
    stepsTo (bench 0x08008E3C [(4, 0x298A1), (5, 0x815BC63E)]
      [(0x8E3C, [0xBA, 0x00, 0x92, 0x52]), (0x9250, [0x3B, 0x69, 0xA0, 0x7E]),
        (0x9254, [0x7F, 0x35, 0x79, 0xA4])]) (some 0x20008E40)
      [(4, 0x3B6C3920), (5, 0x913FE2)] [] = true := by decide +kernel

/-- ADR, S37. -/
theorem test_step_adr :
    stepsTo (bench 0x08003FA2 [(6, 0xFF03C67D), (7, 0x45C6E3F)]
      [(0x3FA2, [0x3B, 0x70])]) (some 0x20003FA4)
      [(6, 0x36034BC), (7, 0x45C6E3F)] [] = true := by decide +kernel

/-- ADRM, S38. -/
theorem test_step_adrm :
    stepsTo (bench 0x40016A9A [(4, 0x7FFFFC), (6, 0x4FC276), (7, 0x37C1F3)]
      [(0x16A9A, [0x3B, 0x78])]) (some 0x20016A9C)
      [(4, 0x7FFFFC), (6, 0x78468), (7, 0x37C1F3)] [] = true := by decide +kernel

/-- ARMB, S39. -/
theorem test_step_armb :
    stepsTo (bench 0x00001A64 [(6, 0x4A)]
      [(0x1A64, [0xEB, 0x08, 0x1A, 0x97]), (0x1A97, [0x39])]) none
      [(6, 0x4A)] [(0x1A97, [0x83])] = true := by decide +kernel

/-- ARMH, S40. -/
theorem test_step_armh :
    stepsTo (bench 0x000200B4 [(5, 0xFFFF8C42)]
      [(0x200B4, [0xEA, 0x82, 0x09, 0x19]), (0x20918, [0x06, 0xC4])]) none
      [(5, 0xFFFF8C42)] [(0x20918, [0x93, 0x06])] = true := by decide +kernel

/-- ARMW, S41. -/
theorem test_step_armw :
    stepsTo (bench 0x08003000 [(7, 0x245C6E3F)]
      [(0x3000, [0xEB, 0x80, 0x31, 0x00]), (0x3100, [0xFF, 0x03, 0xC6, 0x7D])]) (some 0x20003004)
      [(7, 0x245C6E3F)] [(0x3100, [0x23, 0x60, 0x34, 0xBC])] = true := by decide +kernel

/-- ARMD, S42. -/
theorem test_step_armd :
    stepsTo (bench 0x4000819C [(6, 0x1A298A1), (7, 0xF15BC63E)]
      [(0x819C, [0xEB, 0x00, 0x83, 0xAA]), (0x83A8, [0x3B, 0x69, 0xA0, 0x7E]),
        (0x83AC, [0x7F, 0x35, 0x79, 0xA4])]) (some 0x200081A0)
      [(6, 0x1A298A1), (7, 0xF15BC63E)] [(0x83A8, [0x3D, 0x0C, 0x39, 0x20]),
        (0x83AC, [0x70, 0x91, 0x3F, 0xE2])] = true := by decide +kernel

/-- ADI, S43. -/
theorem test_step_adi :
    stepsTo (bench 0x20000D88 [(0, 0x794E)]
      [(0xD88, [0xC8, 0x01, 0x86, 0xB2])]) (some 0x08000D8C)
      [(0, 0x0)] [] = true := by decide +kernel

/-- SUMB, S44. -/
theorem test_step_sumb :
    stepsTo (bench 0x40001000 [(1, 0x194A7F2)]
      [(0x1000, [0xBC, 0x88, 0x12, 0x01]), (0x1201, [0x9A])]) (some 0x20001004)
      [(1, 0x194A758)] [] = true := by decide +kernel

/-- SUMH, S45. -/
theorem test_step_sumh :
    stepsTo (bench 0x10001604 [(6, 0x24CB3)]
      [(0x1604, [0xBF, 0x00, 0x18, 0x77]), (0x1876, [0x34, 0xC6])]) (some 0x20001608)
      [(6, 0x217ED)] [] = true := by decide +kernel

/-- SUMW, S46. -/
theorem test_step_sumw :
    stepsTo (bench 0x0006C208 [(1, 0xA6264D)]
      [(0x6C208, [0xBC, 0x86, 0xF9, 0x14]), (0x6F914, [0x00, 0x07, 0x4B, 0xC3])]) (some 0x2006C20C)
      [(1, 0x9EDA8A)] [] = true := by decide +kernel

/-- SUMD, S47. -/
theorem test_step_sumd :
    stepsTo (bench 0x10003000 [(6, 0x5AD983B7), (7, 0xC833D509)]
      [(0x3000, [0xBF, 0x00, 0x31, 0x02]), (0x3100, [0x15, 0x3B, 0x04, 0x92]),
        (0x3104, [0x5B, 0xE8, 0x7A, 0x16])]) (some 0x20003004)
      [(6, 0x459E7F25), (7, 0x6C4B5AF3)] [] = true := by decide +kernel

/-- SUR, S48. -/
theorem test_step_sur :
    stepsTo (bench 0x100106AE [(1, 0x12345678), (2, 0x12345678)]
      [(0x106AE, [0x3C, 0xA0])]) (some 0x080106B0)
      [(1, 0x0), (2, 0x12345678)] [] = true := by decide +kernel

/-- SURM, S49. -/
theorem test_step_surm :
    stepsTo (bench 0x10000496 [(4, 0xFFFF00), (5, 0x74BC3), (6, 0xA6264D)]
      [(0x496, [0x3F, 0x58])]) (some 0x20000498)
      [(4, 0xFFFF00), (5, 0x74BC3), (6, 0x9EDA00)] [] = true := by decide +kernel

/-- SUI, S50. -/
theorem test_step_sui :
    stepsTo (bench 0x100019B8 [(7, 0xFFFF839A)]
      [(0x19B8, [0xCB, 0x82, 0x83, 0x9A])]) (some 0x080019BC)
      [(7, 0x0)] [] = true := by decide +kernel

/-- MPMB, S51. -/
theorem test_step_mpmb :
    stepsTo (bench 0x0002BA28 [(0, 0x12345678), (1, 0x6F90C859)]
      [(0x2BA28, [0xC0, 0x0A, 0xC3, 0xD9]), (0x2C3D9, [0x40])]) (some 0x2002BA2C)
      [(0, 0x1B), (1, 0xE4321640)] [] = true := by decide +kernel

/-- MPMH, S52. -/
theorem test_step_mpmh :
    stepsTo (bench 0x080096A4 [(2, 0x12345678), (3, 0x3)]
      [(0x96A4, [0xC1, 0x00, 0x9B, 0x57]), (0x9B56, [0xFF, 0xFD])]) (some 0x100096A8)
      [(2, 0xFFFFFFFF), (3, 0xFFFFFFF7)] [] = true := by decide +kernel

/-- MPMW, S53. -/
theorem test_step_mpmw :
    stepsTo (bench 0x10004AC8 [(6, 0x0), (7, 0x80000000)]
      [(0x4AC8, [0xC3, 0x00, 0x4B, 0x1C]), (0x4B1C, [0x80, 0x00, 0x00, 0x00])]) (some 0x20004ACC)
      [(6, 0x40000000), (7, 0x0)] [] = true := by decide +kernel

/-- MPR, S54. -/
theorem test_step_mpr :
    stepsTo (bench 0x1000098E [(0, 0x0), (1, 0xF)]
      [(0x98E, [0x40, 0x10])]) (some 0x20000990)
      [(0, 0x0), (1, 0xE1)] [] = true := by decide +kernel

/-- MPI, S55. -/
theorem test_step_mpi :
    stepsTo (bench 0x20000634 [(6, 0x12345678), (7, 0xF37A9B15)]
      [(0x634, [0xCB, 0x03, 0x01, 0x00])]) (some 0x10000638)
      [(6, 0xFFFFFFF3), (7, 0x7A9B1500)] [] = true := by decide +kernel

/-- DVMB, S56. -/
theorem test_step_dvmb :
    stepsTo (bench 0x10003000 [(0, 0x0), (1, 0x139)]
      [(0x3000, [0xC4, 0x08, 0x30, 0xBF]), (0x30BF, [0x04])]) (some 0x20003004)
      [(0, 0x1), (1, 0x4E)] [] = true := by decide +kernel

/-- DVMH, S57. -/
theorem test_step_dvmh :
    stepsTo (bench 0x08005A94 [(6, 0x0), (7, 0x3B)]
      [(0x5A94, [0xC7, 0x00, 0x5D, 0x6B]), (0x5D6A, [0xFF, 0xF8])]) (some 0x10005A98)
      [(6, 0x3), (7, 0xFFFFFFF9)] [] = true := by decide +kernel

/-- DVMW, S58. -/
theorem test_step_dvmw :
    stepsTo (bench 0x400078C0 [(4, 0x0), (5, 0x39A20CF)]
      [(0x78C0, [0xC6, 0x00, 0x7B, 0x5C]), (0x7B5C, [0xFC, 0x00, 0x00, 0x00])]) (some 0x080078C4)
      [(4, 0x39A20CF), (5, 0x0)] [] = true := by decide +kernel

/-- DVR, S59. -/
theorem test_step_dvr :
    stepsTo (bench 0x10004136 [(2, 0xA), (6, 0x0), (7, 0xFF)]
      [(0x4136, [0x47, 0x20])]) (some 0x20004138)
      [(2, 0xA), (6, 0x5), (7, 0x19)] [] = true := by decide +kernel

/-- DVI, S60. -/
theorem test_step_dvi :
    stepsTo (bench 0x00008000 [(2, 0x0), (3, 0x1B7)]
      [(0x8000, [0xC9, 0x04, 0xFF, 0xFD])]) (some 0x10008004)
      [(2, 0x1), (3, 0xFFFFFF6E)] [] = true := by decide +kernel

/-- ES, S61. -/
theorem test_step_es :
    stepsTo (bench 0x0800083A [(1, 0xB074), (2, 0x8000C361)]
      [(0x83A, [0x00, 0x84])]) (some 0x1000083C)
      [(1, 0xFFFFFFFF), (2, 0x8000C361)] [] = true := by decide +kernel

/-- RND, S62. -/
theorem test_step_rnd :
    stepsTo (bench 0x40000FFE [(6, 0x783A05B2), (7, 0x92CD061F)]
      [(0xFFE, [0x03, 0x75])]) (some 0x20001000)
      [(6, 0x783A05B3), (7, 0x92CD061F)] [] = true := by decide +kernel

/-- ADFW, V68. -/
theorem test_step_adfw :
    stepsTo (bench 0x80001000 [(1, 0x41100000)]
      [(0x1000, [0xE0, 0x88, 0x20, 0x00]), (0x2000, [0x41, 0x10, 0x00, 0x00])]) (some 0xA0001004)
      [(1, 0x41200000)] [] = true := by decide +kernel

/-- ADFD, V88. -/
theorem test_step_adfd :
    stepsTo (bench 0x80001000 [(2, 0x41100000), (3, 0x0)]
      [(0x1000, [0xE1, 0x08, 0x20, 0x02]), (0x2000, [0x41, 0x10, 0x00, 0x00]),
        (0x2004, [0x00, 0x00, 0x00, 0x00])]) (some 0xA0001004)
      [(2, 0x41200000), (3, 0x0)] [] = true := by decide +kernel

/-- SUFW, V77. -/
theorem test_step_sufw :
    stepsTo (bench 0x80001000 [(1, 0x41300000)]
      [(0x1000, [0xE0, 0x80, 0x20, 0x00]), (0x2000, [0x41, 0x10, 0x00, 0x00])]) (some 0xA0001004)
      [(1, 0x41200000)] [] = true := by decide +kernel

/-- SUFD, V91. -/
theorem test_step_sufd :
    stepsTo (bench 0x80001000 [(2, 0x41100000), (3, 0x0)]
      [(0x1000, [0xE1, 0x00, 0x20, 0x02]), (0x2000, [0x34, 0x10, 0x00, 0x00]),
        (0x2004, [0x00, 0x00, 0x00, 0x00])]) (some 0xA0001004)
      [(2, 0x40FFFFFF), (3, 0xFFFFFFF0)] [] = true := by decide +kernel

/-- MPFW, V79. -/
theorem test_step_mpfw :
    stepsTo (bench 0x80001000 [(1, 0x41200000)]
      [(0x1000, [0xE4, 0x88, 0x20, 0x00]), (0x2000, [0x41, 0x30, 0x00, 0x00])]) (some 0xA0001004)
      [(1, 0x41600000)] [] = true := by decide +kernel

/-- MPFD, V92. -/
theorem test_step_mpfd :
    stepsTo (bench 0x80001000 [(2, 0x41200000), (3, 0x0)]
      [(0x1000, [0xE5, 0x08, 0x20, 0x02]), (0x2000, [0x41, 0x30, 0x00, 0x00]),
        (0x2004, [0x00, 0x00, 0x00, 0x00])]) (some 0xA0001004)
      [(2, 0x41600000), (3, 0x0)] [] = true := by decide +kernel

/-- DVFW, V85. -/
theorem test_step_dvfw :
    stepsTo (bench 0x80001000 [(1, 0x41100000)]
      [(0x1000, [0xE4, 0x80, 0x20, 0x00]), (0x2000, [0x41, 0x30, 0x00, 0x00])]) (some 0xA0001004)
      [(1, 0x40555555)] [] = true := by decide +kernel

/-- DVFD, V93. -/
theorem test_step_dvfd :
    stepsTo (bench 0x80001000 [(2, 0x41100000), (3, 0x0)]
      [(0x1000, [0xE5, 0x00, 0x20, 0x02]), (0x2000, [0x41, 0x30, 0x00, 0x00]),
        (0x2004, [0x00, 0x00, 0x00, 0x00])]) (some 0xA0001004)
      [(2, 0x40555555), (3, 0x55555555)] [] = true := by decide +kernel

/-- ANMB, S63. -/
theorem test_step_anmb :
    stepsTo (bench 0x00000200 [(1, 0x36AC718F)]
      [(0x200, [0x84, 0x88, 0x03, 0x73]), (0x373, [0xC7])]) (some 0x20000204)
      [(1, 0x36AC7187)] [] = true := by decide +kernel

/-- ANMH, S64. -/
theorem test_step_anmh :
    stepsTo (bench 0x40001000 [(6, 0x4F638301)]
      [(0x1000, [0x87, 0x00, 0x12, 0xA3]), (0x12A2, [0x70, 0xF6])]) (some 0x08001004)
      [(6, 0x4F630000)] [] = true := by decide +kernel

/-- ANMW, V98. -/
theorem test_step_anmw :
    stepsTo (bench 0x80001000 [(1, 0xFF00FF00)]
      [(0x1000, [0x84, 0x80, 0x20, 0x00]), (0x2000, [0x8F, 0x0F, 0x0F, 0x0F])]) (some 0x90001004)
      [(1, 0x8F000F00)] [] = true := by decide +kernel

/-- ANMD, S65. -/
theorem test_step_anmd :
    stepsTo (bench 0x00000674 [(4, 0x9045C64A), (5, 0x32B08F00)]
      [(0x674, [0x86, 0x00, 0x08, 0x1A]), (0x818, [0x68, 0x4A, 0x71, 0x1C]),
        (0x81C, [0x81, 0x04, 0xA2, 0xBC])]) (some 0x20000678)
      [(4, 0x404008), (5, 0x8200)] [] = true := by decide +kernel

/-- ANR, S66. -/
theorem test_step_anr :
    stepsTo (bench 0x40003812 [(1, 0xAC881101), (7, 0xFFFFF)]
      [(0x3812, [0x04, 0xF0])]) (some 0x20003814)
      [(1, 0x81101), (7, 0xFFFFF)] [] = true := by decide +kernel

/-- ORMB, S67. -/
theorem test_step_ormb :
    stepsTo (bench 0x00000600 [(1, 0x40404040)]
      [(0x600, [0x88, 0x88, 0x08, 0xA3]), (0x8A3, [0x3C])]) (some 0x20000604)
      [(1, 0x4040407C)] [] = true := by decide +kernel

/-- ORMH, S68. -/
theorem test_step_ormh :
    stepsTo (bench 0x000018AC [(6, 0xBD71A4C6)]
      [(0x18AC, [0x8B, 0x00, 0x19, 0x45]), (0x1944, [0x45, 0xF3])]) (some 0x100018B0)
      [(6, 0xBD71E5F7)] [] = true := by decide +kernel

/-- ORMW, S69. -/
theorem test_step_ormw :
    stepsTo (bench 0x40005000 [(3, 0x88888888)]
      [(0x5000, [0x89, 0x80, 0x52, 0x0C]), (0x520C, [0x0E, 0xDC, 0x46, 0x57])]) (some 0x10005004)
      [(3, 0x8EDCCEDF)] [] = true := by decide +kernel

/-- ORMD, S70. -/
theorem test_step_ormd :
    stepsTo (bench 0x10000B68 [(6, 0x2A0031), (7, 0x1D0039)]
      [(0xB68, [0x8B, 0x00, 0x0C, 0x32]), (0xC30, [0x18, 0x00, 0x4C, 0x00]),
        (0xC34, [0x09, 0x00, 0x24, 0x00])]) (some 0x20000B6C)
      [(6, 0x182A4C31), (7, 0x91D2439)] [] = true := by decide +kernel

/-- ORR, S71. -/
theorem test_step_orr :
    stepsTo (bench 0x40000F8A [(1, 0x1D63F), (2, 0x88800000)]
      [(0xF8A, [0x08, 0xA0])]) (some 0x10000F8C)
      [(1, 0x8881D63F), (2, 0x88800000)] [] = true := by decide +kernel

/-- ORRM, S72. -/
theorem test_step_orrm :
    stepsTo (bench 0x00003956 [(4, 0xEEEEEEEE), (5, 0x37735814), (6, 0x2561CA95)]
      [(0x3956, [0x0B, 0x58])]) (some 0x20003958)
      [(4, 0xEEEEEEEE), (5, 0x37735814), (6, 0x2662CA84)] [] = true := by decide +kernel

/-- EOMB, S73. -/
theorem test_step_eomb :
    stepsTo (bench 0x000012F8 [(0, 0xD396F458)]
      [(0x12F8, [0x8C, 0x08, 0x13, 0xA1]), (0x13A1, [0xA9])]) (some 0x100012FC)
      [(0, 0xD396F4F1)] [] = true := by decide +kernel

/-- EOMH, S74. -/
theorem test_step_eomh :
    stepsTo (bench 0x40000958 [(5, 0x96969696)]
      [(0x958, [0x8E, 0x80, 0x0A, 0x41]), (0xA40, [0x5C, 0xAB])]) (some 0x1000095C)
      [(5, 0x9696CA3D)] [] = true := by decide +kernel

/-- EOMW, S75. -/
theorem test_step_eomw :
    stepsTo (bench 0x000185BC [(7, 0x13579BDF)]
      [(0x185BC, [0x8F, 0x81, 0x86, 0x94]), (0x18694, [0x22, 0x22, 0x22, 0x22])]) (some 0x200185C0)
      [(7, 0x3175B9FD)] [] = true := by decide +kernel

/-- EOMD, S76. -/
theorem test_step_eomd :
    stepsTo (bench 0x00000448 [(6, 0xFFFF00), (7, 0xFFF000)]
      [(0x448, [0x8F, 0x00, 0x05, 0x3A]), (0x538, [0x48, 0x21, 0x44, 0xC0]),
        (0x53C, [0x28, 0x81, 0x43, 0x3A])]) (some 0x2000044C)
      [(6, 0x48DEBBC0), (7, 0x287EB33A)] [] = true := by decide +kernel

/-- EOR, S77. -/
theorem test_step_eor :
    stepsTo (bench 0x0000139E [(6, 0x33333333), (7, 0x55555555)]
      [(0x139E, [0x0F, 0xE0])]) (some 0x200013A0)
      [(6, 0x33333333), (7, 0x66666666)] [] = true := by decide +kernel

/-- EORM, S78. -/
theorem test_step_eorm :
    stepsTo (bench 0x00025A32 [(4, 0xFEDF00), (6, 0x9725A2C8), (7, 0x6C248237)]
      [(0x25A32, [0x0F, 0xE8])]) (some 0x08025A34)
      [(4, 0xFEDF00), (6, 0x9725A2C8), (7, 0x0)] [] = true := by decide +kernel

/-- SBM, S79. -/
theorem test_step_sbm :
    stepsTo (bench 0x20001000 []
      [(0x1000, [0x98, 0x88, 0x14, 0x03]), (0x1403, [0x1A])]) (some 0x10001004)
      [] [(0x1403, [0x5A])] = true := by decide +kernel

/-- SBR, S80. -/
theorem test_step_sbr :
    stepsTo (bench 0x10001002 [(0, 0x374B891)]
      [(0x1002, [0x1B, 0x82])]) (some 0x08001004)
      [(0, 0x374B991)] [] = true := by decide +kernel

/-- ZBM, S81. -/
theorem test_step_zbm :
    stepsTo (bench 0x1001F684 []
      [(0x1F684, [0x9E, 0x8A, 0x01, 0x22]), (0x20122, [0x34])]) (some 0x4801F688)
      [] [(0x20122, [0x30])] = true := by decide +kernel

/-- ZBR, S82. -/
theorem test_step_zbr :
    stepsTo (bench 0x10000C56 [(5, 0x76A43B19)]
      [(0xC56, [0x1C, 0x51])]) (some 0x48000C58)
      [(5, 0x76243B19)] [] = true := by decide +kernel

/-- ABM, S85. -/
theorem test_step_abm :
    stepsTo (bench 0x00003000 []
      [(0x3000, [0xA2, 0x08, 0x31, 0x92]), (0x3190, [0x51, 0xA3, 0xF9, 0x26])]) (some 0x20003004)
      [] [(0x3190, [0x51, 0xA4, 0x01, 0x26])] = true := by decide +kernel

/-- ABR, S86. -/
theorem test_step_abr :
    stepsTo (bench 0x0800184E [(6, 0x3BE9AC48)]
      [(0x184E, [0x21, 0x61])]) (some 0x20001850)
      [(6, 0x3C09AC48)] [] = true := by decide +kernel

/-- TBM, S83. -/
theorem test_step_tbm :
    stepsTo (bench 0x10005A38 []
      [(0x5A38, [0xA6, 0x08, 0x5B, 0x21]), (0x5B21, [0x29])]) (some 0x48005A3C)
      [] [] = true := by decide +kernel

/-- TBR, S84. -/
theorem test_step_tbr :
    stepsTo (bench 0x18001982 [(5, 0x81A2C64D)]
      [(0x1982, [0x25, 0xD3])]) (some 0x08001984)
      [(5, 0x81A2C64D)] [] = true := by decide +kernel

/-- CAMB, S87. -/
theorem test_step_camb :
    stepsTo (bench 0x08001000 [(1, 0xB6)]
      [(0x1000, [0x90, 0x88, 0x10, 0xB5]), (0x10B5, [0xC7])]) (some 0x10001004)
      [(1, 0xB6)] [] = true := by decide +kernel

/-- CAMH, S88. -/
theorem test_step_camh :
    stepsTo (bench 0x0800379C [(4, 0x8540)]
      [(0x379C, [0x92, 0x00, 0x39, 0x77]), (0x3976, [0x86, 0x40])]) (some 0x200037A0)
      [(4, 0x8540)] [] = true := by decide +kernel

/-- CAMW, S89. -/
theorem test_step_camw :
    stepsTo (bench 0x40005B20 [(6, 0x9E03B651)]
      [(0x5B20, [0x93, 0x00, 0x5C, 0x78]), (0x5C78, [0xA1, 0x84, 0xF2, 0x07])]) (some 0x10005B24)
      [(6, 0x9E03B651)] [] = true := by decide +kernel

/-- CAMD, S90. -/
theorem test_step_camd :
    stepsTo (bench 0x20027C14 [(4, 0x7AE0156D), (5, 0x47B39208)]
      [(0x27C14, [0x92, 0x02, 0x7F, 0x52]), (0x27F50, [0x7A, 0xE0, 0x15, 0x6D]),
        (0x27F54, [0x47, 0xB3, 0x92, 0x08])]) (some 0x08027C18)
      [(4, 0x7AE0156D), (5, 0x47B39208)] [] = true := by decide +kernel

/-- CAR, S91. -/
theorem test_step_car :
    stepsTo (bench 0x0800B3C2 [(0, 0x58DF620A), (1, 0x6A92B730)]
      [(0xB3C2, [0x10, 0x10])]) (some 0x1000B3C4)
      [(0, 0x58DF620A), (1, 0x6A92B730)] [] = true := by decide +kernel

/-- CI, S92. -/
theorem test_step_ci :
    stepsTo (bench 0x4000A794 [(1, 0x5719)]
      [(0xA794, [0xC8, 0x85, 0x71, 0xA2])]) (some 0x1000A798)
      [(1, 0x5719)] [] = true := by decide +kernel

/-- CMMB, S93. -/
theorem test_step_cmmb :
    stepsTo (bench 0x10000800 [(0, 0xA1), (4, 0xF0)]
      [(0x800, [0x94, 0x08, 0x09, 0x17]), (0x917, [0xA9])]) (some 0x08000804)
      [(0, 0xA1), (4, 0xF0)] [] = true := by decide +kernel

/-- CMMH, S94. -/
theorem test_step_cmmh :
    stepsTo (bench 0x100061B8 [(2, 0x9A043B6), (4, 0x4284)]
      [(0x61B8, [0x95, 0x00, 0x62, 0x93]), (0x6292, [0x46, 0xFC])]) (some 0x080061BC)
      [(2, 0x9A043B6), (4, 0x4284)] [] = true := by decide +kernel

/-- CMMW, S95. -/
theorem test_step_cmmw :
    stepsTo (bench 0x08013A74 [(4, 0xFFFF00), (6, 0x132A1C04)]
      [(0x13A74, [0x97, 0x01, 0x3C, 0x94]), (0x13C94, [0x47, 0x2A, 0x3D, 0x04])]) (some 0x00013A78)
      [(4, 0xFFFF00), (6, 0x132A1C04)] [] = true := by decide +kernel

/-- CMMD, S96. -/
theorem test_step_cmmd :
    stepsTo (bench 0x10003000 [(4, 0xFFFFF), (6, 0xFFF3791B), (7, 0x890A45D6)]
      [(0x3000, [0x97, 0x00, 0x31, 0xBA]), (0x31B8, [0x00, 0x03, 0x79, 0x1B]),
        (0x31BC, [0x89, 0x0A, 0x45, 0xC2])]) (some 0x00003004)
      [(4, 0xFFFFF), (6, 0xFFF3791B), (7, 0x890A45D6)] [] = true := by decide +kernel

/-- CMR, S97. -/
theorem test_step_cmr :
    stepsTo (bench 0x100050D2 [(1, 0x583C94A2), (2, 0xC68C5F6), (4, 0xAAAAAAAA)]
      [(0x50D2, [0x14, 0xA0])]) (some 0x080050D4)
      [(1, 0x583C94A2), (2, 0xC68C5F6), (4, 0xAAAAAAAA)] [] = true := by decide +kernel

/-- BU, S98. -/
theorem test_step_bu :
    stepsTo (bench 0x20001000 []
      [(0x1000, [0xEC, 0x00, 0x14, 0x12])]) (some 0x20001412)
      [] [] = true := by decide +kernel

/-- BCT, S100. -/
theorem test_step_bct :
    stepsTo (bench 0x50001000 []
      [(0x1000, [0xEC, 0x80, 0x14, 0x12])]) (some 0x50001412)
      [] [] = true := by decide +kernel

/-- BCF, S101. -/
theorem test_step_bcf :
    stepsTo (bench 0x10002094 []
      [(0x2094, [0xF1, 0x00, 0x21, 0x4C])]) (some 0x1000214C)
      [] [] = true := by decide +kernel

/-- BFT, S102. -/
theorem test_step_bft :
    stepsTo (bench 0x70001000 [(4, 0x2)]
      [(0x1000, [0xF0, 0x00, 0x20, 0x00])]) (some 0x70002000)
      [(4, 0x2)] [] = true := by decide +kernel

/-- BL, S103. -/
theorem test_step_bl :
    stepsTo (bench 0x1000894C [(0, 0x12345678)]
      [(0x894C, [0xF8, 0x80, 0xA3, 0x78])]) (some 0x1000A378)
      [(0, 0x10008950)] [] = true := by decide +kernel

/-- BIB, S104. -/
theorem test_step_bib :
    stepsTo (bench 0x2001B204 [(0, 0xFFFFFFFF)]
      [(0x1B204, [0xF4, 0x01, 0xB1, 0xA8])]) (some 0x2001B208)
      [(0, 0x0)] [] = true := by decide +kernel

/-- BIH, S105. -/
theorem test_step_bih :
    stepsTo (bench 0x100039A0 [(2, 0xFFFFD72A)]
      [(0x39A0, [0xF5, 0x20, 0x39, 0x48])]) (some 0x10003948)
      [(2, 0xFFFFD72C)] [] = true := by decide +kernel

/-- BIW, S106. -/
theorem test_step_biw :
    stepsTo (bench 0x60004A38 [(6, 0xFFFFDC18)]
      [(0x4A38, [0xF7, 0x40, 0x4B, 0x2C])]) (some 0x60004B2C)
      [(6, 0xFFFFDC1C)] [] = true := by decide +kernel

/-- BID, S107. -/
theorem test_step_bid :
    stepsTo (bench 0x0800930C [(3, 0xFFFFFFF8)]
      [(0x930C, [0xF5, 0xE0, 0x91, 0xA6])]) (some 0x08009310)
      [(3, 0x0)] [] = true := by decide +kernel

/-- BRI, S108. -/
theorem test_step_bri :
    stepsTo (bench 0xC00081B4 []
      [(0x81B4, [0xF9, 0x10, 0x81, 0x3C]), (0x813C, [0x04, 0x01, 0x5D, 0x68])]) (some 0x04015D68)
      [] [] = true := by decide +kernel

/-- TRR, S109. -/
theorem test_step_trr :
    stepsTo (bench 0x00000206 [(1, 0x0), (2, 0x803AB)]
      [(0x206, [0x2C, 0xA0])]) (some 0x20000208)
      [(1, 0x803AB), (2, 0x803AB)] [] = true := by decide +kernel

/-- TRRM, S110. -/
theorem test_step_trrm :
    stepsTo (bench 0x00000206 [(2, 0x803AB), (4, 0x7FFFD)]
      [(0x206, [0x2C, 0xA8])]) (some 0x20000208)
      [(1, 0x3A9), (2, 0x803AB), (4, 0x7FFFD)] [] = true := by decide +kernel

/-- TRN, S111. -/
theorem test_step_trn :
    stepsTo (bench 0x00000AAE [(6, 0xFFF)]
      [(0xAAE, [0x2F, 0xE4])]) (some 0x10000AB0)
      [(6, 0xFFF), (7, 0xFFFFF001)] [] = true := by decide +kernel

/-- TRNM, S112. -/
theorem test_step_trnm :
    stepsTo (bench 0x00000AAE [(4, 0x7FFFFFFF), (6, 0xFFF)]
      [(0xAAE, [0x2F, 0xEC])]) (some 0x20000AB0)
      [(4, 0x7FFFFFFF), (6, 0xFFF), (7, 0x7FFFF001)] [] = true := by decide +kernel

/-- XCR, S115. -/
theorem test_step_xcr :
    stepsTo (bench 0x40002002 [(1, 0x0), (2, 0xAC8823C1)]
      [(0x2002, [0x2C, 0xA5])]) (some 0x08002004)
      [(1, 0xAC8823C1), (2, 0x0)] [] = true := by decide +kernel

/-- XCRM, S116. -/
theorem test_step_xcrm :
    stepsTo (bench 0x40002002 [(1, 0x6B000000), (2, 0xAC8823C1), (4, 0xFFFFF)]
      [(0x2002, [0x2C, 0xAD])]) (some 0x08002004)
      [(1, 0x823C1), (2, 0x0), (4, 0xFFFFF)] [] = true := by decide +kernel

/-- TRC, S113. -/
theorem test_step_trc :
    stepsTo (bench 0x0800100A [(6, 0x55555555)]
      [(0x100A, [0x2F, 0xE3])]) (some 0x1000100C)
      [(6, 0x55555555), (7, 0xAAAAAAAA)] [] = true := by decide +kernel

/-- TRCM, S114. -/
theorem test_step_trcm :
    stepsTo (bench 0x0800100A [(4, 0xFFFF00), (6, 0x55555555)]
      [(0x100A, [0x2F, 0xEB])]) (some 0x2000100C)
      [(4, 0xFFFF00), (6, 0x55555555), (7, 0xAAAA00)] [] = true := by decide +kernel

/-- TRP, S117. -/
theorem test_step_trp :
    nextSatisfies (step (bench 0x80000510 [(7, 0xFFFE)] [(0x510, [0xFB, 0x0F, 0x00, 0x00])]))
      (fun t => t.protect == State.reset.protect.set 1 0xFFFE#24 && t.psw.word == 0x80000514#32) = true := by
  decide +kernel

/-- TPR, S118. -/
theorem test_step_tpr :
    stepsTo { bench 0x00000510 [] [(0x510, [0xFB, 0x8F, 0x00, 0x00])] with
        protect := State.reset.protect.set 1 0xFFFE#24 } (some 0x00000514) [(7,
        0xFFFE)] [] = true := by decide +kernel

/-- TRSW, S119. -/
theorem test_step_trsw :
    stepsTo (bench 0x6000069E [(0, 0xA0000B4C)]
      [(0x69E, [0x28, 0x00])]) (some 0x20000B4C)
      [(0, 0xA0000B4C)] [] = true := by decide +kernel

/-- NOR, S120. -/
theorem test_step_nor :
    stepsTo (bench 0x20000D32 [(1, 0x12345678), (6, 0x2E915)]
      [(0xD32, [0x63, 0x10])]) (some 0x20000D34)
      [(1, 0x3D), (6, 0x2E915000)] [] = true := by decide +kernel

/-- NORD, S121. -/
theorem test_step_nord :
    stepsTo (bench 0x1000046E [(1, 0x9ABCDEF0), (6, 0xFFFFFFFF), (7, 0xFF3AD915)]
      [(0x46E, [0x67, 0x10])]) (some 0x10000470)
      [(1, 0x37), (6, 0xF3AD9150), (7, 0x0)] [] = true := by decide +kernel

/-- SCZ, S122. -/
theorem test_step_scz :
    stepsTo (bench 0x2000399E [(2, 0x12345678), (4, 0x300611)]
      [(0x399E, [0x6A, 0x20])]) (some 0x000039A0)
      [(2, 0xA), (4, 0x80308800)] [] = true := by decide +kernel

/-- SLA, S123. -/
theorem test_step_sla :
    stepsTo (bench 0x10000106 [(6, 0x13AD)]
      [(0x106, [0x6F, 0x4C])]) (some 0x00000108)
      [(6, 0x13AD000)] [] = true := by decide +kernel

/-- SLL, S125. -/
theorem test_step_sll :
    stepsTo (bench 0xA0000812 [(7, 0x12345678)]
      [(0x812, [0x73, 0xD4])]) (some 0xA0000814)
      [(7, 0x67800000)] [] = true := by decide +kernel

/-- SLC, S126. -/
theorem test_step_slc :
    stepsTo (bench 0x000001FA [(7, 0x12345678)]
      [(0x1FA, [0x77, 0xD0])]) (some 0x000001FC)
      [(7, 0x56781234)] [] = true := by decide +kernel

/-- SLAD, S127. -/
theorem test_step_slad :
    stepsTo (bench 0x80002DF6 [(4, 0xFFFFFFA3), (5, 0x9A178802)]
      [(0x2DF6, [0x7A, 0x58])]) (some 0x80002DF8)
      [(4, 0xA39A1788), (5, 0x2000000)] [] = true := by decide +kernel

/-- SLLD, S128. -/
theorem test_step_slld :
    stepsTo (bench 0x100001FE [(6, 0x1234567), (7, 0x89ABCDEF)]
      [(0x1FE, [0x7F, 0x58])]) (some 0x10000200)
      [(6, 0x6789ABCD), (7, 0xEF000000)] [] = true := by decide +kernel

/-- SRA, S129. -/
theorem test_step_sra :
    stepsTo (bench 0x10000372 [(4, 0xB69825F1)]
      [(0x372, [0x6E, 0x0A])]) (some 0x10000374)
      [(4, 0xFFEDA609)] [] = true := by decide +kernel

/-- SRL, S130. -/
theorem test_step_srl :
    stepsTo (bench 0x10000372 [(4, 0xB69825F1)]
      [(0x372, [0x72, 0x0A])]) (some 0x10000374)
      [(4, 0x2DA609)] [] = true := by decide +kernel

/-- SRC, S131. -/
theorem test_step_src :
    stepsTo (bench 0x20000372 [(4, 0x1234567)]
      [(0x372, [0x76, 0x0C])]) (some 0x20000374)
      [(4, 0x56701234)] [] = true := by decide +kernel

/-- SRAD, S132. -/
theorem test_step_srad :
    stepsTo (bench 0x20002B46 [(6, 0x8E2A379B), (7, 0x58C1964D)]
      [(0x2B46, [0x7B, 0x18])]) (some 0x20002B48)
      [(6, 0xFFFFFF8E), (7, 0x2A379B58)] [] = true := by decide +kernel

/-- SRLD, S133. -/
theorem test_step_srld :
    stepsTo (bench 0x20002B46 [(6, 0x8E2A379B), (7, 0x58C1964D)]
      [(0x2B46, [0x7F, 0x18])]) (some 0x20002B48)
      [(6, 0x8E), (7, 0x2A379B58)] [] = true := by decide +kernel

/-- EXR, V170. -/
theorem test_step_exr :
    stepsTo (bench 0x80001000 [(1, 0x3930FFFF), (2, 0x5), (3, 0x7)]
      [(0x1000, [0xC8, 0x87, 0x00, 0x00])]) (some 0xA0001004)
      [(1, 0x3930FFFF), (2, 0xC), (3, 0x7)] [] = true := by decide +kernel

/-- EXRR, V175. -/
theorem test_step_exrr :
    stepsTo (bench 0x80001000 [(1, 0x12340002)]
      [(0x1000, [0xC8, 0x87, 0x00, 0x02])]) (some 0x80001004)
      [(1, 0x12340002)] [] = true := by decide +kernel

/-- EXM, V178. -/
theorem test_step_exm :
    stepsTo (bench 0x80001000 [(1, 0x5)]
      [(0x1000, [0xA8, 0x00, 0x15, 0x00]), (0x1500, [0x0C, 0x90, 0x00, 0x02])]) (some 0x88001004)
      [(1, 0x0)] [] = true := by decide +kernel

/-- HALT, V181. -/
theorem test_step_halt :
    nextSatisfies (step (bench 0x80001000 [] [(0x1000, [0x00, 0x00])]))
      (fun t => t.run == .halt && t.psw.word == 0x80001002#32) = true := by decide +kernel

/-- WAIT, V182. -/
theorem test_step_wait :
    nextSatisfies (step (bench 0x00001000 [] [(0x1000, [0x00, 0x01])]))
      (fun t => t.run == .wait && t.psw.word == 0x00001002#32) = true := by decide +kernel

/-- NOP, V183. -/
theorem test_step_nop :
    stepsTo (bench 0x78001000 []
      [(0x1000, [0x00, 0x02])]) (some 0x78001002)
      [] [] = true := by decide +kernel

/-- CD, V193. -/
theorem test_step_cd :
    stepsTo (bench 0xF8001000 []
      [(0x1000, [0xFC, 0xAE, 0x80, 0x00])]) (some 0xF8001004)
      [] [] = true := by decide +kernel

/-- TD, V192. -/
theorem test_step_td :
    stepsTo (bench 0xF8001000 []
      [(0x1000, [0xFC, 0xAD, 0x80, 0x00])]) (some 0x80001004)
      [] [] = true := by decide +kernel

/-- LCS, S17. -/
theorem test_step_lcs :
    stepsTo { bench 0x00006002 [] [(0x6002, [0x03, 0x83])] with controlSwitches := 0x1040#13 } (some 0x10006004)
      [(7, 0x82000000)] [] = true := by decide +kernel

/-- CALM, V185. -/
theorem test_step_calm :
    nextSatisfies (step (bench 0x00000200 [] [(0x200, [0x30, 0x00])]))
      (fun t => t.request == 1#128 <<< 0x27 && t.psw.word == 0x00000202#32) = true := by decide +kernel

/-- EI on level 30H, the first step of V186. -/
theorem test_step_ei :
    nextSatisfies (step (bench 0x80001000 [] [(0x1000, [0xFD, 0x80, 0x00, 0x00])]))
      (fun t => t.enabled == 1#128 <<< 0x30 && t.psw.word == 0x80001004#32) = true := by decide +kernel

/-- DI on level 30H clears the enabled latch and the request (49_interrupt_io.md R413). -/
theorem test_step_di :
    nextSatisfies (step { bench 0x80001000 [] [(0x1000, [0xFD, 0x81, 0x00, 0x00])] with
        enabled := 3#128 <<< 0x30, request := 3#128 <<< 0x30, active := 1#128 <<< 0x2A })
      (fun t => t.enabled == 1#128 <<< 0x31 && t.request == 1#128 <<< 0x31 && t.active == 1#128 <<< 0x2A) = true := by
  decide +kernel

/-- RI on level 30H, disabled: the first step of V187. -/
theorem test_step_ri :
    nextSatisfies (step (bench 0x80001000 [] [(0x1000, [0xFD, 0x82, 0x00, 0x00])]))
      (fun t => t.request == 1#128 <<< 0x30 && t.psw.word == 0x80001004#32) = true := by decide +kernel

/-- AI on level 2AH, a step of V189. -/
theorem test_step_ai :
    nextSatisfies (step (bench 0x80001000 [] [(0x1000, [0xFD, 0x53, 0x00, 0x00])]))
      (fun t => t.active == 1#128 <<< 0x2A && t.psw.word == 0x80001004#32) = true := by decide +kernel

/-- DAI on level 2AH, a step of V189: the request stays. -/
theorem test_step_dai :
    nextSatisfies (step { bench 0x80001000 [] [(0x1000, [0xFD, 0x54, 0x00, 0x00])] with
        active := 3#128 <<< 0x2A, request := 1#128 <<< 0x30 })
      (fun t => t.active == 1#128 <<< 0x2B && t.request == 1#128 <<< 0x30) = true := by decide +kernel

/-! ## States that meet the hypotheses of the statements

One theorem for each statement with hypotheses, each clause at a boundary where it has one. -/

/-- A privileged machine at 01000 with some registers. -/
def ops : State := bench 0x80001000 [(1, 0xFFFFFFFF), (2, 3), (4, 0x00FFFF00), (6, 0x80000000)] [(0x1000, [0x00, 0x02])]

/-- The same machine in the Unprivileged state. -/
def user : State := bench 0x00001000 [(1, 0xFFFFFFFF), (2, 3)] [(0x1000, [0x00, 0x02])]

/-- The last byte of memory. -/
def refByte : MemRef := ⟨0, false, true, 0x7FFFF⟩

/-- The last halfword of memory. -/
def refHalf : MemRef := ⟨0, false, false, 0x7FFFF⟩

/-- The last word of memory. -/
def refWord : MemRef := ⟨0, false, false, 0x7FFFC⟩

/-- The last doubleword of memory, named by its odd word. -/
def refDouble : MemRef := ⟨0, false, false, 0x7FFFE⟩

/-- The effective address of an unindexed direct reference. -/
def direct (m : MemRef) : Ea := ⟨m.f, m.c, m.addr, none⟩

/-- The four formats. -/
def refs : List MemRef := [refByte, refHalf, refWord, refDouble]

theorem test_formats : refs.map (fun m => (direct m).format) = [.byte, .half, .word, .double] := by decide

/-- Operands of all four formats can be read in a state. -/
abbrev AllReadable (s : State) : Prop :=
  ∀ m ∈ refs, Reads s m (s.seen (direct m)) (s.afterRead (direct m)) ∧ (s.seen (direct m)).format = (direct m).format

/-- Operands of all four formats can be written in a state. -/
abbrev AllWritable (s : State) : Prop := ∀ m ∈ refs, Writable s m (direct m) s

/-- The console channel is in the middle of a block that stores words into the last word of memory; between the memory
cycles of the step it asks for a transfer and the AIOS makes its three cycles. -/
def shared : State :=
  { ops.setWord (controlWordAddr 15) 0x00C7FFFC with
    channels := State.reset.channels.set 15 { Channel.reset with busy := true, data := 0x41 }
    within := [[.input 15 0x41, .cycle 15], [.cycle 15], [.cycle 15]] }

/-- A next state exists where the outcome is one. -/
theorem exists_next (o : Host.Outcome State Fault Refusal) (h : nextSatisfies o (fun _ => true) = true) :
    ∃ t, o = .next t := by
  cases o with
  | next t => exact ⟨t, rfl⟩
  | fault f => cases h
  | refused f => cases h

theorem test_all_readable : AllReadable ops ∧ AllReadable shared := by
  constructor <;> intro m hm <;> simp only [refs, List.mem_cons, List.not_mem_nil, or_false] at hm <;>
    rcases hm with rfl | rfl | rfl | rfl <;>
    exact ⟨⟨_, _, rfl, by decide +kernel, by decide +kernel, rfl, rfl⟩, rfl⟩

theorem test_all_writable : AllWritable ops ∧ AllWritable shared := by
  constructor <;> intro m hm <;> simp only [refs, List.mem_cons, List.not_mem_nil, or_false] at hm <;>
    rcases hm with rfl | rfl | rfl | rfl <;>
    exact ⟨rfl, by decide +kernel, by decide +kernel, by decide +kernel⟩

theorem test_parity_good : ∀ s ∈ [ops, shared], ∀ m ∈ refs, s.seenBad (direct m) = false ∧
    s.tick.parityBadAt (direct m).word = false := by
  decide +kernel

theorem test_hypotheses_DecodeEncodeRoundTrip : (Instr.ld 6 refDouble).wellFormed = true ∧
    (Instr.calm 0x3FF).wellFormed = true ∧ (Instr.bid 7 ⟨0, true, true, 0x7FFFF⟩).wellFormed = true := by decide

theorem test_hypotheses_InvariantKeptByStep : ops.Inv = true ∧ ∃ t, step ops = .next t :=
  ⟨by decide +kernel, exists_next _ (by decide +kernel)⟩

/-- Nothing stands before the next instruction of `ops`, nor in a step of `shared` for which nothing is listed before the
service check. -/
theorem test_undisturbed : Undisturbed ops ops ∧ Undisturbed user user ∧
    Undisturbed { shared with inputs := [⟨[], shared.within⟩], within := [] } shared :=
  ⟨⟨rfl, by decide +kernel, .inl ⟨rfl, by decide +kernel, rfl⟩⟩, ⟨rfl, by decide +kernel, .inl ⟨rfl, by decide +kernel, rfl⟩⟩,
    rfl, by decide +kernel, .inr ⟨_, _, rfl, rfl, rfl⟩⟩

/-- The keyswitch stands on "privileged and semi-privileged" and was operated. -/
def switched : State := { ops with keyswitch := .semiPrivileged, keyswitchPending := true }

theorem test_switched : Undisturbed switched switched ∧ Adopts switched.tick ∧ ¬ Adopts ops.tick := by
  refine ⟨⟨rfl, by decide +kernel, .inl ⟨rfl, by decide +kernel, rfl⟩⟩, ?_, ?_⟩ <;> unfold Adopts <;> decide +kernel

theorem test_hypotheses_StepRunsDecoded :
    (∀ s ∈ [ops, shared, switched], s.present s.pcWord = true ∧ s.tick.parityBadAt s.pcWord = false ∧
      decode (instructionBytes s.tick) = .ok .nop) ∧
    (∃ w, Executes ops.tick w) ∧ Executes switched.tick
      { switched.tick with
        shield := false, hung := false, keyswitchPending := false, semi := true
        psw := { switched.psw with priv := false } } :=
  ⟨by decide +kernel, ⟨_, fun _ => rfl, fun h => absurd h test_switched.2.2⟩,
    fun h => absurd test_switched.2.1 h, fun _ => rfl⟩

/-- The step adopts the position: Semi-Privileged. -/
theorem test_keyswitch_adopted : nextSatisfies (step switched) (fun t => t.semi && !t.psw.priv && !t.keyswitchPending) = true := by
  decide +kernel

/-- Levels 30H and 7FH are requested and enabled, level 00H is not. -/
def asked : State := { ops with request := 1#128 <<< 0x30 ||| 1#128 <<< 0x7F, enabled := BitVec.allOnes 128 <<< 2 }

theorem test_candidate : Candidate asked 0x30 ∧ Candidate asked 0x7F := by
  unfold Candidate; exact ⟨by decide +kernel, by decide +kernel⟩

theorem test_hypotheses_ServiceCheckRule : asked.run ≠ .halt ∧ asked.run ≠ .off ∧ asked.shield = false ∧ asked.hung = false ∧
    Candidate asked 0x30 ∧ (∀ m, Candidate asked m → m ≠ 0x30 → asked.prio 0x30 < asked.prio m) ∧
    EntryReady asked 0x30 false ∧ (∀ n, ¬ Candidate ops n) ∧ { asked with run := .halt }.run = .halt ∧
    { asked with run := .off }.run = .off ∧ { asked with shield := true }.shield = true ∧ { asked with hung := true }.hung = true := by
  refine ⟨by decide, by decide, rfl, rfl, test_candidate.1, ?_, ?_, ?_, rfl, rfl, rfl, rfl⟩
  · unfold Candidate; decide +kernel
  · exact ⟨by decide +kernel, by decide +kernel, by decide +kernel, by decide +kernel⟩
  · unfold Candidate; decide +kernel

theorem test_hypotheses_EntrySequence : EntryReady ops 0x00 true ∧ EntryReady ops 0x00 false ∧
    EntryReady ops 0x7F false := by
  refine ⟨⟨?_, ?_, ?_, ?_⟩, ⟨?_, ?_, ?_, ?_⟩, ?_, ?_, ?_, ?_⟩ <;> decide +kernel

theorem test_hypotheses_HaltAndWaitIdle : { ops with run := .halt }.inputs = [] ∧
    { ops with run := .off }.inputs = [] ∧
    { ops with run := .wait }.inputs = [] ∧ (∀ k : Fin 16, { ops with run := .wait }.channels[k].transfer = none) ∧
    ∀ n, { ops with run := .wait }.serviceable n = false :=
  ⟨rfl, rfl, rfl, by decide +kernel, by decide +kernel⟩

/-- The trap levels are enabled. -/
def trapping : State := { user with enabled := BitVec.allOnes 128 <<< 0x12 }

theorem test_hypotheses_TrapTaken : ∀ x ∈ [Trap.memoryParity, .nonPresentMemory, .undefinedInstruction,
    .privilegeViolation], TrapOpen trapping x ∧ EntryReady trapping x.level true := by
  unfold TrapOpen EntryReady; decide +kernel

theorem test_hypotheses_TrapNotTaken : ¬ TrapOpen user .privilegeViolation ∧
    ¬ TrapOpen { trapping with active := 1#128 <<< 0x26 } .privilegeViolation := by
  unfold TrapOpen; exact ⟨by decide +kernel, by decide +kernel⟩

/-- An undefined halfword in a left halfword; a word form in a right one. -/
def undecodable (k : Bool) : State :=
  if k then bench 0x80001000 [] [(0x1000, [0x00, 0x06])] else bench 0x80001002 [] [(0x1000, [0x00, 0x02, 0xAC, 0x88])]

theorem test_hypotheses_UndecodableTraps : ∀ k : Bool,
    Undisturbed (undecodable k) (undecodable k) ∧ (undecodable k).present (undecodable k).pcWord = true ∧
      (undecodable k).tick.parityBadAt (undecodable k).pcWord = false ∧
      decode (instructionBytes (undecodable k).tick) = .error (if k then .undefinedCode else .wordCutShort) ∧
      Executes (undecodable k).tick { (undecodable k).tick with shield := false, hung := false } := by
  intro k
  cases k <;> exact ⟨⟨rfl, by decide +kernel, .inl ⟨rfl, by decide +kernel, rfl⟩⟩, by decide +kernel, by decide +kernel,
    by decide +kernel, fun _ => rfl, fun h => nomatch h.1⟩

/-- A machine of one module. -/
def small : State := { bench 0x80008000 [(1, 1)] [] with cfg := { Params.standard with kinds := [.k8633] } }

theorem test_hypotheses_FetchFaults : (Undisturbed small small ∧ small.present small.pcWord = false) ∧
    (Undisturbed { ops with parityBad := [0x400] } { ops with parityBad := [0x400] } ∧
      { ops with parityBad := [0x400] }.present ops.pcWord = true ∧
      { ops with parityBad := [0x400] }.tick.parityBadAt ops.pcWord = true) :=
  ⟨⟨⟨rfl, by decide +kernel, .inl ⟨rfl, by decide +kernel, rfl⟩⟩, by decide +kernel⟩,
    ⟨rfl, by decide +kernel, .inl ⟨rfl, by decide +kernel, rfl⟩⟩, by decide +kernel, by decide +kernel⟩

theorem test_hypotheses_LoadResult : AllReadable ops ∧ AllReadable shared := test_all_readable

theorem test_hypotheses_LoadMaskedResult : AllReadable ops ∧ AllReadable shared := test_all_readable

theorem test_hypotheses_LoadNegativeResult : AllReadable ops ∧ AllReadable shared := test_all_readable

/-- The last doubleword of memory has bad parity. -/
def spoiled : State := { ops with parityBad := [0x1FFFE, 0x1FFFF] }

theorem test_hypotheses_LoadOperandParity :
    (∀ m ∈ refs, (spoiled.present (direct m).word = true ∧ spoiled.seenBad (direct m) = true ∧
      spoiled.tick.parityBadAt (direct m).word = true ∧ WriteOpen spoiled (direct m).word) ∧
      effAddr spoiled m = .ok (direct m, spoiled)) ∧
    spoiled.cfg.optFp = true ∧ (direct refWord).c = 0 ∧ (direct refDouble).c = 2 ∧
    spoiled.tick.parityBadAt (oddWord (direct refDouble).word) = true ∧
    ({ spoiled with parityBad := [0x1FFFE] }.tick.parityBadAt (oddWord (direct refDouble).word) = false ∧
      { spoiled with parityBad := [0x1FFFE] }.tick.tick.parityBadAt (evenWord (direct refDouble).word) = true) ∧
    effAddr spoiled ⟨0, true, false, 0x7FFFC⟩ = .error (.trap .memoryParity spoiled) ∧
    effAddr small ⟨0, true, false, 0x7FFFC⟩ = .error (.trap .nonPresentMemory small) ∧
    (∀ i ∈ [Instr.bct 4 refWord, .bcf 1 refWord, .bft refWord], branchTaken ⟨false, false, false, true⟩ 0xFFFF i = true) ∧
    spoiled.unprivileged = false ∧ spoiled.reg 1 + incrementOf (.bih 1 refWord) ≠ 0 := by
  refine ⟨?_, rfl, rfl, rfl, by decide +kernel, by decide +kernel, by decide +kernel, by decide +kernel,
    by decide +kernel, by decide +kernel, by decide +kernel⟩
  intro m hm
  simp only [refs, List.mem_cons, List.not_mem_nil, or_false] at hm
  unfold WriteOpen
  rcases hm with rfl | rfl | rfl | rfl <;> exact ⟨by decide +kernel, rfl⟩

/-- A word at 02000 with F = 1, and one at 02004 whose F and C are zero; the one at 02008 has bad parity. -/
def chained : State :=
  { bench 0x00001000 [(1, 1)] [(0x2000, [0x00, 0x08, 0x30, 0x01]), (0x2004, [0x00, 0x00, 0x30, 0x00])] with
    parityBad := [0x802] }

theorem test_hypotheses_LoadEffectiveAddress : 0 < chained.cfg.chainLimit ∧
    (chained.present 0x800 = true ∧ chained.tick.parityBadAt 0x800 = false ∧
      bitAt (chained.tick.wordAt 0x800) 11 = false) ∧
    (chained.present 0x801 = true ∧ chained.tick.parityBadAt 0x801 = false ∧
      bitAt (chained.tick.wordAt 0x801) 11 = false) ∧
    (chained.present 0x802 = true ∧ chained.tick.parityBadAt 0x802 = true) ∧ small.present 0x1FFFF = false ∧
    effAddr chained ⟨0, true, false, 0x2000⟩ = .ok (⟨true, 1, 0x3001, some 0x00083001⟩, chained) ∧
    effAddr chained ⟨1, true, false, 0x2004⟩ = .ok (⟨false, 1, 0x3000, some 0x00003000⟩, chained) :=
  ⟨by decide +kernel, by decide +kernel, by decide +kernel, by decide +kernel, by decide +kernel, by decide +kernel,
    by decide +kernel⟩

theorem test_hypotheses_FileTransfers : (∀ s ∈ [ops, shared], effAddr s refWord = .ok (direct refWord, s) ∧
      s.present (direct refWord).word = true ∧
      ∀ n : Reg, (s.ticks (n.toNat + 1)).parityBadAt (fileWord (direct refWord).word 0 n) = false) ∧
    (spoiled.ticks 1).parityBadAt (fileWord (direct refWord).word 0 0) = true ∧
    ((∀ n : Reg, 3 ≤ n.toNat → n.toNat < 6 → (spoiled.ticks (n.toNat - 3 + 1)).parityBadAt (fileWord 0x1FFFB 3 n) = false) ∧
      (spoiled.ticks (6 - 3 + 1)).parityBadAt (fileWord 0x1FFFB 3 6) = true) ∧
    Writable ops refWord (direct refWord) ops ∧ Writable shared refWord (direct refWord) shared :=
  ⟨by decide +kernel, by decide +kernel, by decide +kernel, test_all_writable.1 refWord (by decide),
    test_all_writable.2 refWord (by decide)⟩

theorem test_hypotheses_StoreResult : AllWritable ops ∧ AllWritable shared := test_all_writable

theorem test_hypotheses_ZeroMemoryResult : AllWritable ops ∧ AllWritable shared := test_all_writable

/-- Page 15 of the last module is protected. -/
def locked : State := { user with protect := user.protect.set 15 0x8000#24 }

/-- The last module is port-protected with port 2 access 01, read only. -/
def readOnly : State :=
  { ops with
    protect := ops.protect.set 15 0x100000#24
    cfg := { Params.standard with kinds := List.replicate 15 .k8633 ++ [.k8634] } }

theorem test_hypotheses_ProtectedStoreTraps :
    (effAddr locked refWord = .ok (direct refWord, locked) ∧ locked.present (direct refWord).word = true ∧
      locked.notPrivileged = true ∧ locked.pageLocked (direct refWord).word = true) ∧
    (effAddr readOnly refWord = .ok (direct refWord, readOnly) ∧ readOnly.present (direct refWord).word = true ∧
      readOnly.portReadOnly (direct refWord).word = true) :=
  ⟨⟨rfl, by decide +kernel, by decide +kernel, by decide +kernel⟩, rfl, by decide +kernel, by decide +kernel⟩

theorem test_hypotheses_AbsentOperandTraps : (∀ m ∈ refs, effAddr small m = .ok (direct m, small) ∧
      small.present (direct m).word = false) ∧ small.cfg.optFp = true ∧ (direct refWord).c = 0 ∧
      (direct refDouble).c = 2 ∧ (direct refHalf).format ≠ .double ∧ small.present 0x2000 = false ∧
      small.present 0x1FFF = true :=
  ⟨by decide +kernel, rfl, rfl, rfl, by decide, by decide +kernel, by decide +kernel⟩

theorem test_hypotheses_AddSubtractMemory : AllReadable ops ∧ AllReadable shared := test_all_readable

theorem test_hypotheses_AddToMemoryWide : AllWritable ops ∧ AllWritable shared ∧
    (∀ s ∈ [ops, shared], ∀ m ∈ refs, s.seenBad (direct m) = false) ∧
    (direct refWord).format = .word ∧ (direct refDouble).format = .double :=
  ⟨test_all_writable.1, test_all_writable.2, fun s hs m hm => (test_parity_good s hs m hm).1, rfl, rfl⟩

theorem test_hypotheses_AddToMemoryNarrow : AllWritable ops ∧ AllWritable shared ∧
    (∀ s ∈ [ops, shared], ∀ m ∈ refs, s.seenBad (direct m) = false) ∧
    (direct refByte).format = .byte ∧ (direct refHalf).format = .half :=
  ⟨test_all_writable.1, test_all_writable.2, fun s hs m hm => (test_parity_good s hs m hm).1, rfl, rfl⟩

theorem test_hypotheses_MultiplyResult : AllReadable ops ∧
    ∀ m ∈ [refByte, refHalf, refWord], (ops.seen (direct m)).format ≠ .double :=
  ⟨test_all_readable.1, by decide +kernel⟩

/-- A dividend of -2^31 in R2, R3, a divisor -1 in memory and in R5. -/
def dividing : State := bench 0x80001000 [(2, 0xFFFFFFFF), (3, 0x80000001), (5, 0xFFFFFFFF)] [(0x7FFFC, [255, 255, 255, 255])]

theorem test_hypotheses_DivideResult : Reads dividing refWord (.word 0xFFFFFFFF) dividing ∧
    (Datum.word 0xFFFFFFFF).format ≠ .double ∧
    Divides (dividing.pair 2).toInt (Datum.word 0xFFFFFFFF).int 2147483647 0 ∧
    Divides (dividing.pair 2).toInt (dividing.reg 5).toInt 2147483647 0 ∧
    Divides (dividing.pair 2).toInt (0xFFFE#16).toInt 1073741823 (-1) := by
  unfold Divides
  exact ⟨⟨direct refWord, dividing, rfl, by decide +kernel, by decide +kernel, by decide +kernel, rfl⟩, by decide,
    by decide +kernel, by decide +kernel, by decide +kernel⟩

theorem test_hypotheses_DivideOverflow : Reads ops refWord (.word 0) ops ∧ (Datum.word 0).format ≠ .double ∧
    NoQuotient (ops.pair 2).toInt (Datum.word 0).int ∧ NoQuotient (ops.pair 2).toInt (ops.reg 3).toInt ∧
    NoQuotient (ops.pair 6).toInt (0xFFFF#16).toInt := by
  unfold NoQuotient
  exact ⟨⟨direct refWord, ops, rfl, by decide +kernel, by decide +kernel, by decide +kernel, rfl⟩, by decide,
    by decide +kernel, by decide +kernel, by decide +kernel⟩

theorem test_hypotheses_NoVariantFaults : effAddr ops refDouble = .ok (direct refDouble, ops) ∧
    (direct refDouble).format = .double ∧ ops.cfg.optFp = true ∧
    effAddr ops refHalf = .ok (direct refHalf, ops) ∧ (direct refHalf).c = 3 ∧
    effAddr ops ⟨0, false, true, 1⟩ = .ok (⟨true, 1, 1, none⟩, ops) := ⟨rfl, rfl, rfl, rfl, rfl, rfl⟩

theorem test_hypotheses_ExtendAndRound : (6 : Reg) ≠ 7 := by decide

theorem test_hypotheses_FloatCompletes : ∀ s ∈ [ops, shared], s.cfg.optFp = true ∧
    (effAddr s refWord = .ok (direct refWord, s) ∧ s.present (direct refWord).word = true ∧ (direct refWord).c = 0 ∧
      s.tick.parityBadAt (direct refWord).word = false) ∧
    (effAddr s refDouble = .ok (direct refDouble, s) ∧ s.present (direct refDouble).word = true ∧
      (direct refDouble).c = 2 ∧ s.tick.parityBadAt (oddWord (direct refDouble).word) = false ∧
      s.tick.tick.parityBadAt (evenWord (direct refDouble).word) = false) := by decide +kernel

theorem test_hypotheses_FloatEncodeRoundTrip : 127 < 128 ∧ 2 ^ 24 - 1 < 2 ^ 24 ∧ 2 ^ 56 - 1 < 2 ^ 56 ∧
    (127 ≠ 0 ∨ 2 ^ 24 - 1 ≠ 0) := by decide

/-- Worked values of V79, V85, V71 and V78, the last with exponents 5 apart; their doubleword forms. -/
theorem test_hypotheses_FloatResultRounds :
    (normalizedFloat 0x41200000#32 ∧ normalizedFloat 0x41300000#32 ∧ normalizedFloat 0x46100000#32 ∧
      normalizedFloat 0x41100000#32) ∧
    floatMultiply 0x41200000#32 0x41300000#32 = .exact 0x41600000#32 ∧
    floatDivide 0x41100000#32 0x41300000#32 = .exact 0x40555555#32 ∧
    floatAdd 0x46100000#32 0x41100000#32 = .exact 0x46100001#32 ∧
    floatSubtract 0x41100000#32 0x41300000#32 = .exact 0xBEE00000#32 ∧
    exponentOf 0x46100000#32 = exponentOf 0x41100000#32 + 5 ∧
    (normalizedFloat 0x4120000000000000#64 ∧ normalizedFloat 0x4130000000000000#64 ∧
      normalizedFloat 0x4E10000000000000#64 ∧ normalizedFloat 0x4110000000000000#64 ∧
      normalizedFloat 0x3410000000000000#64) ∧
    floatMultiply 0x4120000000000000#64 0x4130000000000000#64 = .exact 0x4160000000000000#64 ∧
    floatDivide 0x4120000000000000#64 0x4130000000000000#64 = .exact 0x40AAAAAAAAAAAAAA#64 ∧
    floatAdd 0x4E10000000000000#64 0x4110000000000000#64 = .exact 0x4E10000000000001#64 ∧
    floatSubtract 0x4110000000000000#64 0x3410000000000000#64 = .exact 0x40FFFFFFFFFFFFF0#64 ∧
    exponentOf 0x4E10000000000000#64 = exponentOf 0x4110000000000000#64 + 13 := by
  unfold normalizedFloat; decide +kernel

/-- Exponents 6 and 14 apart, zero operands with and without an exponent, and results no pattern can hold. -/
theorem test_hypotheses_FloatResultRounds_ends :
    (normalizedFloat 0x47100000#32 ∧ normalizedFloat 0xB8F00000#32 ∧
      exponentOf 0x41100000#32 + 5 < exponentOf 0x47100000#32) ∧
    (normalizedFloat 0x4F10000000000000#64 ∧ exponentOf 0x4110000000000000#64 + 13 < exponentOf 0x4F10000000000000#64) ∧
    (zeroFloat 0x00000000#32 ∧ zeroFloat 0x42000000#32 ∧ zeroFloat 0xBE000000#32) ∧
    (zeroFloat 0#64 ∧ zeroFloat 0x4200000000000000#64) ∧
    floatMultiply 0x7F100000#32 0x7F100000#32 = .exception ∧ floatDivide 0x00100000#32 0x7F100000#32 = .exception ∧
    floatMultiply 0x7F10000000000000#64 0x7F10000000000000#64 = .exception := by
  unfold normalizedFloat zeroFloat; decide +kernel

theorem test_hypotheses_AbsentOptionsTrap :
    { ops with cfg := { Params.standard with optFp := false } }.cfg.optFp = false ∧
    { ops with cfg := { Params.standard with optRtm := false } }.cfg.optRtm = false := ⟨rfl, rfl⟩

theorem test_hypotheses_AndMemory : AllReadable ops ∧ AllReadable shared := test_all_readable

theorem test_hypotheses_OrXorMemory : AllReadable ops ∧ AllReadable shared := test_all_readable

theorem test_hypotheses_BitInstructions : ∀ s ∈ [ops, shared], Writable s refByte (direct refByte) s ∧
    effAddr s refByte = .ok (direct refByte, s) ∧ s.present (direct refByte).word = true ∧
    s.tick.parityBadAt (direct refByte).word = false := by unfold Writable WriteOpen; decide +kernel

theorem test_hypotheses_AddBitMemory : ∀ s ∈ [ops, shared], Writable s refByte (direct refByte) s ∧
    s.tick.parityBadAt (direct refByte).word = false := by unfold Writable WriteOpen; decide +kernel

theorem test_hypotheses_CompareRule : AllReadable ops ∧ AllReadable shared := test_all_readable

theorem test_hypotheses_BranchesAndLink :
    (∀ i ∈ [Instr.bu refWord, .bct 0 refWord, .bcf 7 refWord], branchTaken ops.psw.cc (ops.reg 4) i = true) ∧
    (∀ i ∈ [Instr.bct 7 refWord, .bcf 0 refWord], branchTaken ops.psw.cc (ops.reg 4) i = false) ∧
    branchTaken ops.psw.cc (ops.reg 4) (.bft refWord) = true ∧
    branchTaken ⟨true, true, true, true⟩ (ops.reg 4) (.bft refWord) = false ∧
    effAddr ops refWord = .ok (direct refWord, ops) ∧
    effAddr ops ⟨0, true, false, 0x7FFFC⟩ = .ok (⟨false, 0, 0, some 0⟩, ops) :=
  ⟨by decide +kernel, by decide +kernel, by decide +kernel, by decide +kernel, rfl, rfl⟩

theorem test_hypotheses_BranchAfterIncrement : BitVec.ofNat 32 ((ops.reg 1).toNat + (incrementOf (.bib 1 refWord)).toNat) = 0 ∧
    BitVec.ofNat 32 ((ops.reg 1).toNat + (incrementOf (.bid 1 refWord)).toNat) ≠ 0 ∧
    effAddr ops { refWord with x := 0 } = .ok (direct refWord, ops) := ⟨by decide +kernel, by decide +kernel, rfl⟩

/-- Levels 00H and 7FH are active. -/
def inService : State := { ops with active := 1#128 ||| 1#128 <<< 0x7F }

theorem test_hypotheses_BriResult : inService.unprivileged = false ∧ effAddr inService refWord = .ok (direct refWord, inService) ∧
    hasLevel inService.active 0 = true ∧
    (∀ k, hasLevel inService.active k = true → k ≠ 0 → inService.prio 0 < inService.prio k) ∧
    (∀ n, hasLevel ops.active n = false) :=
  ⟨by decide +kernel, rfl, by decide +kernel, by decide +kernel, by decide +kernel⟩

theorem test_hypotheses_BriUndoesEntry : EntryReady { ops with active := 1#128 <<< 0x7F } 0x30 false ∧
    nextSatisfies (entered (enter { ops with active := 1#128 <<< 0x7F } 0x30 false)) (fun t => t.within == []) = true ∧
    hasLevel { ops with active := 1#128 <<< 0x7F }.active 0x30 = false ∧
    (∀ k, hasLevel { ops with active := 1#128 <<< 0x7F }.active k = true → ops.prio 0x30 < ops.prio k) ∧
    ops.psw.mid.extractLsb' 1 3 = 0 ∧ 0 < ops.cfg.chainLimit :=
  ⟨⟨by decide +kernel, by decide +kernel, by decide +kernel, by decide +kernel⟩, by decide +kernel,
    by decide +kernel, by decide +kernel, by decide +kernel, by decide +kernel⟩

/-- A port-protected module 0 and 15, the last closed to port 2. -/
def ported : State := { ops with cfg := { Params.standard with kinds := List.replicate 16 .k8634 } }

theorem test_hypotheses_ProtectRegisterTransfers : ops.cfg.optRtm = true ∧ ops.psw.priv = true ∧
    ops.kindOf 15 ≠ some .k8634 ∧ ported.cfg.optRtm = true ∧ ported.kindOf 15 = some .k8634 ∧
    (ported.protect[15].extractLsb' 20 2) = 0 ∧ ((ported.protect[0] ||| 0x200000#24).extractLsb' 20 2) ≠ 0 := by
  decide +kernel

theorem test_hypotheses_NormalizeAndScan :
    let s := bench 0x80001000 [(1, 0xFFFFFFFF), (2, 0xFFFFFFFF), (3, 0xFF3AD915), (5, 1)] []
    (s.reg 0 = 0 ∧ s.pair 6 = 0) ∧
    (s.reg 1 ≠ 0 ∧ outOfRange 32 ((s.reg 1).toInt * 16 ^ 7) = false ∧ outOfRange 32 ((s.reg 1).toInt * 16 ^ 8) = true) ∧
    (s.pair 2 ≠ 0 ∧ outOfRange 64 ((s.pair 2).toInt * 16 ^ 9) = false ∧
      outOfRange 64 ((s.pair 2).toInt * 16 ^ 10) = true) ∧
    (2 ^ (31 - 31) ≤ (s.reg 5).toNat ∧ (s.reg 5).toNat < 2 ^ (32 - 31)) ∧
    2 ^ (31 - 0) ≤ (s.reg 1).toNat ∧ (s.reg 1).toNat < 2 ^ (32 - 0) := by decide +kernel

theorem test_hypotheses_ExecuteSubject :
    let s := bench 0x00001000 [(1, 0xC8870000), (2, 0x3930FFFF), (3, 0x00000002), (5, 0xC9000007)] [(0x1500, [0x0C, 0x90, 0x00, 0x02])]
    (SubjectOf s (.exr 5) (wordBytes (s.reg 5)) s ∧ decode (wordBytes (s.reg 5)) = .ok (.li 2 7)) ∧
    (SubjectOf s (.exr 2) (wordBytes (s.reg 2)) s ∧ decode (wordBytes (s.reg 2)) = .ok (.adr 2 3)) ∧
    (SubjectOf s (.exrr 3) [0x00, 0x02] s ∧ decode [0x00, 0x02] = .ok .nop) ∧
    (SubjectOf s (.exr 1) (wordBytes (s.reg 1)) s ∧ decode (wordBytes (s.reg 1)) = .ok (.exr 1)) ∧
    (SubjectOf s (.exrr 1) [0x00, 0x00] s ∧ decode [0x00, 0x00] = .ok .halt ∧ s.unprivileged = true) ∧
    (SubjectOf s (.exrr 2) [0xFF, 0xFF] s ∧ decode [0xFF, 0xFF] = .error .wordCutShort) ∧
    (SubjectOf s (.exm ⟨0, false, false, 0x1502⟩) [0x00, 0x02] s) ∧
    SubjectOf s (.exm ⟨0, false, false, 0x1500⟩) [0x0C, 0x90, 0x00, 0x02] s := by
  refine ⟨⟨.inl ⟨5, rfl, rfl, rfl⟩, by decide +kernel⟩, ⟨.inl ⟨2, rfl, rfl, rfl⟩, by decide +kernel⟩,
    ⟨.inr (.inl ⟨3, rfl, by decide +kernel, rfl⟩), by decide⟩, ⟨.inl ⟨1, rfl, rfl, rfl⟩, by decide +kernel⟩,
    ⟨.inr (.inl ⟨1, rfl, by decide +kernel, rfl⟩), by decide, by decide +kernel⟩,
    ⟨.inr (.inl ⟨2, rfl, by decide +kernel, rfl⟩), by decide⟩,
    .inr (.inr ⟨_, ⟨false, 2, 0x1502, none⟩, _, rfl, rfl, by decide +kernel, rfl, by decide +kernel, by decide +kernel⟩),
    .inr (.inr ⟨_, ⟨false, 0, 0x1500, none⟩, _, rfl, rfl, by decide +kernel, rfl, by decide +kernel, by decide +kernel⟩)⟩

theorem test_hypotheses_ControlInstructions : ops.unprivileged = false ∧ user.unprivileged = true := by decide +kernel

theorem test_hypotheses_InterruptControl : ops.unprivileged = false ∧ hasLevel ops.cfg.levelsPresent 0x12 = true ∧
    hasLevel ops.cfg.levelsPresent 0x11 = true ∧ hasLevel ops.cfg.levelsPresent 0x01 = true ∧
    hasLevel ops.cfg.levelsPresent 0x7F = true ∧ hasLevel ops.cfg.levelsPresent 0x02 = false := by decide +kernel

/-- `ops` in an installation whose hardware alone drives the latches of levels 00H and 01H (60 R452, R453; log 27). -/
def hardwareDriven : State := { ops with cfg := { Params.standard with protectLevelsByProgram := false } }

/-- R411 has RI 01 request the level, R452 has it change no latch; RI 12 requests its level in both. -/
theorem test_request_system_override :
    nextSatisfies (exec (.ri 0x01) ops) (fun t => hasLevel t.request 0x01) = true ∧
    nextSatisfies (exec (.ri 0x01) hardwareDriven) (fun t => t.request == ops.request) = true ∧
    nextSatisfies (exec (.ri 0x12) hardwareDriven) (fun t => hasLevel t.request 0x12) = true :=
  ⟨by decide +kernel, by decide +kernel, by decide +kernel⟩

/-- R6: without its channel neither the transfer level 02H nor the service level 14H is present; with the channel of
Table 3-2 both are. -/
theorem test_levels_of_channels : Params.standard.legal = true ∧
    { Params.standard with levelsPresent := setLevel Params.standard.levelsPresent 0x02 true }.legal = false ∧
    { Params.standard with levelsPresent := setLevel Params.standard.levelsPresent 0x14 true }.legal = false ∧
    { Params.standard with
      levelsPresent := setLevel (setLevel Params.standard.levelsPresent 0x02 true) 0x14 true
      channels := Params.standard.channels.set 0 { Params.standard.channels[0] with installed := true } }.legal = true := by
  decide +kernel

theorem test_hypotheses_DeviceInstructions : ops.unprivileged = false ∧
    ops.cfg.channels[channelOfDevice 0x7E].installed = true ∧ ops.cfg.channels[channelOfDevice 0x7F].installed = true ∧
    ops.cfg.channels[channelOfDevice 0x7D].installed = false ∧ ops.cfg.channels[channelOfDevice 0x00].installed = false := by
  decide +kernel

theorem test_hypotheses_PrivilegedTraps : user.unprivileged = true ∧ user.cfg.optRtm = true ∧ user.psw.priv = false ∧
    { user with semi := true }.unprivileged = false ∧ { user with semi := true }.notPrivileged = true := by decide +kernel

/-- The console channel, of high or low priority, asks for a transfer; its Transfer Control Word is in its register and in
the dedicated location. -/
def transferring (high : Bool) (dir : Direction) (tcw : Word) : State :=
  { ops.setWord (controlWordAddr 15) tcw with
    channels := State.reset.channels.set 15
      { Channel.reset with busy := true, transfer := some (.requested dir), data := 0x41, tcw := tcw }
    cfg := { Params.standard with
      channels := Params.standard.channels.set 15 { Params.standard.channels[15] with highPriority := high } } }

/-- The hypotheses on a transfer under a Transfer Control Word. -/
abbrev Transferable (w : Word) : Prop :=
  ∀ high : Bool, ∀ dir ∈ [Direction.input, .output],
    let s := transferring high dir w
    s.channels[(15 : Fin 16)].transfer = some (.requested dir) ∧ s.cfg.channels[(15 : Fin 16)].highPriority = high ∧
      s.ioPresent 0x4F = true ∧ s.wordAt 0x4F = w ∧ s.ioWritable (controlEa w).word = true ∧
      ∀ j : Fin 16, j ≠ 15 → s.channels[j].transfer = none

/-- Channels of both kinds and both directions, with counts at their bounds, the code 010 and the dedicated word as the
target; and a closed port. -/
theorem test_hypotheses_AiosInputTransfer :
    (Transferable 0x00182003 ∧ Transferable 0x00002001 ∧ Transferable 0xFFF7FFFC) ∧
    (Transferable 0x00202002 ∧ Transferable 0x0010013C ∧ Transferable 0x0020013C) ∧
    [0x00182003#32, 0x00002001#32, 0x00202002#32, 0x0010013C#32, 0x0020013C#32].map blockGoesOn =
      [false, true, true, false, true] ∧
    ported.ioPresent 0x4F = false ∧
    (transferring true .input 0).cfg.channels[(15 : Fin 16)].installed = true ∧
    (transferring true .input 0).cfg.channels[(14 : Fin 16)].siActual.toNat <
      (transferring true .input 0).cfg.channels[(15 : Fin 16)].siActual.toNat :=
  ⟨by decide +kernel, by decide +kernel, by decide +kernel, by decide +kernel, by decide +kernel, by decide +kernel⟩

/-- ARMW on the word a transfer stores into, the two cycles of the instruction with the AIOS's between them: the sum of
what was read stands in the end, the transfer's datum is lost (20_memory.md R73, 92 D6). -/
theorem test_bus_between_cycles :
    nextSatisfies (exec (.armw 2 refWord) { shared with within := [[], [.input 15 0x41, .cycle 15, .cycle 15, .cycle 15]] })
      (fun t => t.wordAt 0x1FFFF == 3 && t.wordAt 0x4F == 0x00B00000) = true ∧
    nextSatisfies (exec (.armw 2 refWord) { shared with within := [[.input 15 0x41, .cycle 15, .cycle 15], [.cycle 15]] })
      (fun t => t.wordAt 0x1FFFF == 0x44 && t.wordAt 0x4F == 0x00B00000) = true := by decide +kernel

/-- A byte of one count, as V-less hand calculation from 49_interrupt_io.md R425 to R429: the datum is stored, the block
ends, the service request is owed and comes with its event. -/
theorem test_aios_last_byte :
    let t := aios (transferring false .input 0x00182003)
    t.byteAt 0x2003 = 0x41 ∧ t.channels[(15 : Fin 16)].busy = false ∧ t.channels[(15 : Fin 16)].serviceOwed = true ∧
      t.request = 0 ∧ (applyEvent t (.service 15)).request = 1#128 <<< 0x23 ∧ t.wordAt 0x4F = 0x00182003 := by
  decide +kernel

/-- In HALT a snapshot word on the bus is lost, in RUN it is written. -/
theorem test_snapshot : (applyEvent { ops with run := .halt } (.bus (.snapshot 15 0x900 7))).wordAt 0x900 = 0 ∧
    (applyEvent ops (.bus (.snapshot 15 0x900 7))).wordAt 0x900 = 7 := by decide +kernel

/-- LF with bad parity at its third word: two registers are loaded (40_load_store.md R180, 92 D28). -/
theorem test_lf_parity :
    let s := bench 0x80001000 [(7, 9)] [(0x2000, [0, 0, 0, 1, 0, 0, 0, 2, 0, 0, 0, 3])]
    nextSatisfies (exec (.lf 5 ⟨0, false, false, 0x2000⟩) { s with parityBad := [0x802] })
      (fun t => t.reg 5 == 1 && t.reg 6 == 2 && t.reg 7 == 9 && t.errorIndicator) = true := by decide +kernel

/-- The word at 02000 is an indirect word that addresses itself; level 01H is requested or not, the keylock on or off. -/
def looping (req : LevelSet) (k : KeylockPosition) : State :=
  { bench 0x00001000 [] [(0x2000, [0x00, 0x10, 0x20, 0x00])] with request := req, keylock := k }

theorem test_hypotheses_EndlessChain :
    (∀ s ∈ [looping 0 .off, looping 2 .off, looping 0 .consoleDisabled, looping 2 .consoleDisabled],
      s.within = [] ∧ s.present 0x800 = true ∧ s.parityBadAt 0x800 = false ∧
      MemRef.ofWord (s.wordAt 0x800) = ⟨0, true, false, (0x800 : WordAddr) ++ 0#2⟩ ∧
      effAddr s ⟨0, true, false, 0x2000⟩ = .error (.hang s)) ∧
    (∀ n : Level, n.toNat ≤ 1 → hasLevel (looping 2 .off).request n = false ∨ (looping 2 .off).cfg.optRtm = false ∨
      (looping 2 .off).keylock = .off) ∧
    (hasLevel (looping 2 .consoleDisabled).request 1 = true ∧ hasLevel (looping 2 .consoleDisabled).request 0 = false ∧
      (looping 2 .consoleDisabled).cfg.optRtm = true ∧ (looping 2 .consoleDisabled).keylock ≠ .off ∧
      (∀ k, hasLevel (looping 2 .consoleDisabled).active k = true →
        (looping 2 .consoleDisabled).prio 1 < (looping 2 .consoleDisabled).prio k) ∧
      EntryReady (looping 2 .consoleDisabled) 1 true) := by
  unfold EntryReady; exact ⟨by decide +kernel, by decide +kernel, by decide +kernel⟩

theorem test_hypotheses_UnprivilegedConfined : user.unprivileged = true ∧ (∃ t, exec .nop user = .next t) ∧
    ∃ t, exec .halt trapping = .next t :=
  ⟨by decide +kernel, exists_next _ (by decide +kernel), exists_next _ (by decide +kernel)⟩

/-! ## Taking an exception -/

/-- EI in the Unprivileged state with level 26H enabled, V191: the privilege violation trap is entered. -/
theorem test_trap_entered :
    nextSatisfies (step { bench 0x00003000 [] [(0x3000, [0xFD, 0x48, 0x00, 0x00]), (0x198, [0x00, 0x00, 0x04, 0x00])] with
        enabled := 1#128 <<< 0x26 })
      (fun t => t.psw.word == 0x80000404#32 && t.active == 1#128 <<< 0x26 && holds t 0x400 [0x00, 0x00, 0x30, 0x00]) = true :=
  by decide +kernel

/-- An interrupt on level 30H is entered before the next instruction, the third step of V186. -/
theorem test_interrupt_entered :
    nextSatisfies (step { bench 0x80001008 [] [(0x404, [0x00, 0x02, 0x00, 0x02]), (0x1C0, [0x00, 0x00, 0x04, 0x00])] with
        enabled := 1#128 <<< 0x30, request := 1#128 <<< 0x30 })
      (fun t => t.psw.word == 0x80000406#32 && t.active == 1#128 <<< 0x30 && t.request == 0#128 &&
        holds t 0x400 [0x80, 0x00, 0x10, 0x08]) = true := by decide +kernel

/-- The first step from reset: level 00H is entered through the word at 0F4H, which holds zeros, so the PSWR goes to
word 0 and the fetch is at 4. -/
theorem test_first_step : nextSatisfies (step State.reset) (fun t => holds t 0 [0x80, 0, 0, 0] && t.active == 1#128) = true :=
  by decide +kernel

/-- `withFetchWord` makes the next step run the instruction: a halfword and a word. -/
theorem test_withFetchWord : (match prepare (State.reset.withFetchWord 16 0x0002) with
      | .run i _ => i == .nop
      | _ => false) = true ∧
    (match prepare (State.reset.withFetchWord 32 0xC9000007) with
      | .run i _ => i == .li 2 7
      | _ => false) = true ∧
    nextSatisfies (step (State.reset.withFetchWord 32 0xC9000007)) (fun t => t.reg 2 == 7) = true :=
  ⟨by decide +kernel, by decide +kernel, by decide +kernel⟩

end Sys2Proof.Tests
end

/-!
The statements about a step as a whole: that it runs the decoded instruction (O4), that the instructions of an absent
option trap (O37), and that it keeps the invariant (O2).
-/

namespace Sys2Proof.Machine

/-! ## A step and the instruction it decodes (60_exceptions.md R454, R461, R462; 00_scope.md R16) -/

/-- Without a pending transfer interrupt the AIOS does nothing. -/
theorem aios_idle (s : State) (h : ∀ k : Fin 16, s.channels[k].transfer = none) : aios s = s := by
  unfold aios
  rw [if_neg]
  simp only [List.any_eq_true, not_exists, not_and]
  intro k _
  simp only [h k, Option.isSome_none, Bool.false_eq_true, not_false_eq_true]

/-- With nothing serviceable the service check leaves the state as it is. -/
theorem serviceCheck_idle (s : State) (h : ∀ n, s.serviceable n = false) : serviceCheck s = .ok s := by
  have hnone : allLevels.filter s.serviceable = [] := by simp [h]
  unfold serviceCheck
  rw [hnone]
  split
  · rfl
  · simp [State.highest]

/-- What arrives in an undisturbed state is only what the bus does during the step. -/
theorem arrivals_undisturbed {s u : State} (h : Undisturbed s u) : arrivals s = u := by
  obtain ⟨hrun, -, ⟨hin, hch, rfl⟩ | ⟨a, rest, hin, hbefore, rfl⟩⟩ := h
  · simp [arrivals, hin, State.stopped, hrun, aios_idle s hch]
  · simp [arrivals, hin, hbefore]

theorem serviceable_undisturbed {s u : State} (h : Undisturbed s u) (n : Level) : u.serviceable n = false := by
  obtain ⟨-, hs, ⟨-, -, rfl⟩ | ⟨a, rest, -, -, rfl⟩⟩ := h <;> exact hs n

theorem run_undisturbed {s u : State} (h : Undisturbed s u) : u.run = .run := by
  obtain ⟨hr, -, ⟨-, -, rfl⟩ | ⟨a, rest, -, -, rfl⟩⟩ := h <;> exact hr

/-- Nothing stands between an undisturbed state and its fetch. -/
theorem prepare_undisturbed {s u : State} (h : Undisturbed s u) : prepare s = fetchInstruction u := by
  simp [prepare, arrivals_undisturbed h, serviceAndFetch, serviceCheck_idle u (serviceable_undisturbed h),
    run_undisturbed h]

/-- The fetch of a readable word that decodes. -/
theorem fetchInstruction_decoded {s : State} {i : Instr} (hp : s.present s.pcWord = true)
    (hq : s.tick.parityBadAt s.pcWord = false) (hd : decode (instructionBytes s.tick) = .ok i) :
    fetchInstruction s = .run i (begun (adoptKeyswitch s.tick)) := by
  have hpc : s.tick.pcWord = s.pcWord := by simp [State.pcWord]
  simp [fetchInstruction, hp, hpc, hq, hd]

theorem adoptKeyswitch_of_not_adopts {s : State} (h : ¬ Adopts s) : adoptKeyswitch s = s := by
  unfold adoptKeyswitch
  rw [if_neg]
  simpa [Adopts, and_assoc] using h

/-- An adopted keyswitch position sets PSWR bit 0 and SEMI (60 R461, R462). -/
theorem adoptKeyswitch_of_adopts {s : State} (h : Adopts s) :
    adoptKeyswitch s = { s with
      keyswitchPending := false
      semi := decide (s.keyswitch = .semiPrivileged)
      psw := { s.psw with priv := decide (s.keyswitch = .privileged) } } := by
  obtain ⟨hpending, hrtm, hpage⟩ := h
  unfold adoptKeyswitch
  rw [if_pos (by simp [hpending, hrtm, hpage])]
  cases s.keyswitch <;> simp

/-- The state that executes is the one after the adoption, shield and unfinished mark cleared. -/
theorem begun_adoptKeyswitch_of_executes {v w : State} (h : Executes v w) : begun (adoptKeyswitch v) = w := by
  by_cases ha : Adopts v
  · rw [h.2 ha, adoptKeyswitch_of_adopts ha]; rfl
  · rw [h.1 ha, adoptKeyswitch_of_not_adopts ha]; rfl

/-- Settles O4: everything before the instruction is passed by, one part of `prepare` at a time. -/
theorem stepRunsDecoded : Obligations.StepRunsDecoded := by
  intro s u w i hu hp hq hd he
  have hready : prepare s = .run i w := by
    rw [prepare_undisturbed hu, fetchInstruction_decoded hp hq hd, begun_adoptKeyswitch_of_executes he]
  simp [step, hready]

/-! ## Absent options (00 R7, 30_encoding.md R115, 46_register_transfer.md R348, R349) -/

/-- A word instruction that traps before it changes anything traps in the state it began in. -/
theorem runWord_trap (op : State → Act State) (s : State) (t : Trap)
    (h : op (s.advance 2#18) = .error (.trap t (s.advance 2#18))) : runWord op s = raise t 2#18 s := by
  simp [runWord, h]

theorem floatOp_absent (f : {n : Nat} → BitVec n → BitVec n → FloatResult n) (r : Reg) (m : MemRef) (s : State)
    (h : s.cfg.optFp = false) : floatOp f r m s = .error (.trap .undefinedInstruction s) := by
  simp [floatOp, h]

theorem opTrp_absent (k : BitVec 4) (r : Reg) (s : State) (h : s.cfg.optRtm = false) :
    opTrp k r s = .error (.trap .undefinedInstruction s) := by
  simp [opTrp, h]

theorem opTpr_absent (k : BitVec 4) (r : Reg) (s : State) (h : s.cfg.optRtm = false) :
    opTpr k r s = .error (.trap .undefinedInstruction s) := by
  simp [opTpr, h]

/-- Settles O37: each of the ten looks for its option before anything else. -/
theorem absentOptionsTrap : Obligations.AbsentOptionsTrap := by
  intro s r m k
  refine ⟨fun h i hi => ?_, fun h i hi => ?_⟩
  · simp only [List.mem_cons, List.not_mem_nil, or_false] at hi
    rcases hi with rfl | rfl | rfl | rfl | rfl | rfl | rfl | rfl <;>
      exact runWord_trap _ s _ (floatOp_absent _ r m _ h)
  · simp only [List.mem_cons, List.not_mem_nil, or_false] at hi
    obtain rfl | rfl := hi
    · exact runWord_trap _ s _ (opTrp_absent k r _ h)
    · exact runWord_trap _ s _ (opTpr_absent k r _ h)

/-! ## The invariant, part by part -/

/-- The one bit of a level. -/
theorem getLsbD_levelBit (n m : Level) : (1#128 <<< n.toNat).getLsbD m.toNat = decide (m = n) := by
  have hm : m.toNat < 128 := m.isLt
  rw [Bool.eq_iff_iff, decide_eq_true_iff, BitVec.toNat_eq]
  simp [BitVec.getLsbD_shiftLeft, BitVec.getLsbD_one]
  omega

@[simp] theorem hasLevel_setLevel (l : LevelSet) (n m : Level) (v : Bool) :
    hasLevel (setLevel l n v) m = if m = n then v else hasLevel l m := by
  have hm : m.toNat < 128 := m.isLt
  unfold setLevel hasLevel
  by_cases h : m = n <;> cases v <;>
    simp only [if_true, Bool.false_eq_true, if_false, BitVec.getLsbD_or, BitVec.getLsbD_and, BitVec.getLsbD_not,
      getLsbD_levelBit] <;> simp [h, hm]

/-- Levels 02H to 11H have no enabled or active latch and levels 00H and 01H no enabled one (60 R453). -/
def LatchesLegal (enabled active : LevelSet) : Prop :=
  ∀ n : Level, (n.toNat ≤ 0x11 → hasLevel enabled n = false) ∧
    (0x02 ≤ n.toNat → n.toNat ≤ 0x11 → hasLevel active n = false)

theorem latchesLegal_iff (s : State) :
    s.transferLatchesClear = true ∧ s.protectLatchesClear = true ↔ LatchesLegal s.enabled s.active := by
  have hnum : ∀ k < 16, (BitVec.ofNat 7 (0x02 + k)).toNat = 0x02 + k := fun k hk => by
    rw [BitVec.toNat_ofNat]; omega
  simp only [State.transferLatchesClear, State.protectLatchesClear, List.all_eq_true, List.mem_range, Bool.and_eq_true,
    Bool.not_eq_true']
  constructor
  · rintro ⟨htransfer, h0, h1⟩ n
    have hmid : 0x02 ≤ n.toNat → n.toNat ≤ 0x11 → hasLevel s.enabled n = false ∧ hasLevel s.active n = false := by
      intro h2 h17
      have hn : BitVec.ofNat 7 (0x02 + (n.toNat - 0x02)) = n := by
        rw [Nat.add_sub_cancel' h2, BitVec.ofNat_toNat, BitVec.setWidth_eq]
      simpa only [hn] using htransfer (n.toNat - 0x02) (by omega)
    refine ⟨fun h17 => ?_, fun h2 h17 => (hmid h2 h17).2⟩
    by_cases h2 : 0x02 ≤ n.toNat
    · exact (hmid h2 h17).1
    · obtain rfl | rfl : n = 0x00#7 ∨ n = 0x01#7 := by bv_omega
      · exact h0
      · exact h1
  · intro h
    refine ⟨fun k hk => ⟨(h _).1 ?_, (h _).2 ?_ ?_⟩, (h _).1 (by decide), (h _).1 (by decide)⟩ <;>
      rw [hnum k hk] <;> omega

theorem inv_iff (s : State) :
    s.Inv = true ↔ s.canonical = true ∧ LatchesLegal s.enabled s.active ∧ s.semiLegal = true ∧ s.cfg.legal = true := by
  rw [← latchesLegal_iff]
  simp only [State.Inv, Bool.and_eq_true, and_assoc]

/-- EI and DI reach only levels above 11H. -/
theorem LatchesLegal.setEnabled {e a : LevelSet} (h : LatchesLegal e a) (n : Level) (v : Bool) (hn : 0x12 ≤ n.toNat) :
    LatchesLegal (setLevel e n v) a := by
  refine fun m => ⟨fun hm => ?_, (h m).2⟩
  have hne : m ≠ n := by rintro rfl; omega
  rw [hasLevel_setLevel, if_neg hne]
  exact (h m).1 hm

/-- A level that is no transfer interrupt may become active. -/
theorem LatchesLegal.setActive {e a : LevelSet} (h : LatchesLegal e a) (n : Level) (v : Bool)
    (hn : n.toNat < 0x02 ∨ 0x11 < n.toNat) : LatchesLegal e (setLevel a n v) := by
  refine fun m => ⟨(h m).1, fun h2 h17 => ?_⟩
  have hne : m ≠ n := by rintro rfl; omega
  rw [hasLevel_setLevel, if_neg hne]
  exact (h m).2 h2 h17

/-- The active latch of any level may be cleared. -/
theorem LatchesLegal.clearActive {e a : LevelSet} (h : LatchesLegal e a) (n : Level) :
    LatchesLegal e (setLevel a n false) := by
  refine fun m => ⟨(h m).1, fun h2 h17 => ?_⟩
  rw [hasLevel_setLevel]
  split
  · rfl
  · exact (h m).2 h2 h17

/-- No latch at all is legal: the machine after power-on (10 R57). -/
theorem latchesLegal_zero : LatchesLegal 0#128 0#128 := fun n => by simp [hasLevel]

theorem inv_canonical {s : State} (h : s.Inv = true) : s.canonical = true := ((inv_iff s).1 h).1

theorem inv_latches {s : State} (h : s.Inv = true) : LatchesLegal s.enabled s.active := ((inv_iff s).1 h).2.1

/-- Of what the invariant speaks of only latches have changed, and they are legal. -/
theorem inv_of_latches {s t : State} (h : s.Inv = true) (hlatch : LatchesLegal t.enabled t.active)
    (hmem : t.canonical = s.canonical) (hsemi : t.semi = s.semi) (hcfg : t.cfg = s.cfg) : t.Inv = true := by
  obtain ⟨hcanonical, -, hs, hl⟩ := (inv_iff s).1 h
  exact (inv_iff t).2 ⟨hmem.trans hcanonical, hlatch, by rwa [State.semiLegal, hcfg, hsemi], by rwa [hcfg]⟩

/-- Of what the invariant speaks of only memory has changed, and it is canonical. -/
theorem inv_of_canonical {s t : State} (h : s.Inv = true) (hmem : t.canonical = true)
    (henabled : t.enabled = s.enabled) (hactive : t.active = s.active) (hsemi : t.semi = s.semi) (hcfg : t.cfg = s.cfg) :
    t.Inv = true := by
  obtain ⟨-, hlatch, hs, hl⟩ := (inv_iff s).1 h
  exact (inv_iff t).2 ⟨hmem, by rwa [henabled, hactive], by rwa [State.semiLegal, hcfg, hsemi], by rwa [hcfg]⟩

theorem inv_ite {c : Prop} [Decidable c] {x y : State} (hx : c → x.Inv = true) (hy : y.Inv = true) :
    (if c then x else y).Inv = true := by
  split
  · exact hx ‹c›
  · exact hy

/-! ## The invariant and the updates of the state -/

@[simp] theorem setReg_inv (s : State) (r : Reg) (v : Word) : (s.setReg r v).Inv = s.Inv := rfl
@[simp] theorem setPair_inv (s : State) (r : Reg) (v : DWord) : (s.setPair r v).Inv = s.Inv := rfl
@[simp] theorem setPc_inv (s : State) (pc : BitVec 18) : (s.setPc pc).Inv = s.Inv := rfl
@[simp] theorem setCC_inv (s : State) (c : CC) : (s.setCC c).Inv = s.Inv := rfl
@[simp] theorem advance_inv (s : State) (len : BitVec 18) : (s.advance len).Inv = s.Inv := rfl
@[simp] theorem drawn_inv (s : State) : s.drawn.Inv = s.Inv := rfl
@[simp] theorem begun_inv (s : State) : (begun s).Inv = s.Inv := rfl
@[simp] theorem requestLevel_inv (s : State) (n : Level) : (s.requestLevel n).Inv = s.Inv := rfl
@[simp] theorem setChannel_inv (s : State) (k : Fin 16) (c : Channel) : (s.setChannel k c).Inv = s.Inv := rfl
@[simp] theorem jump_inv (s : State) (e : Ea) : (s.jump e).Inv = s.Inv := rfl
@[simp] theorem loadProtect_inv (s : State) (m : BitVec 4) (v : Word) : (s.loadProtect m v).Inv = s.Inv := rfl

@[simp] theorem signal_inv (s : State) (n : Level) : (s.signal n).Inv = s.Inv := by
  unfold State.signal; split <;> rfl

@[simp] theorem finishArithmetic_inv (s : State) (c : CC) : (s.finishArithmetic c).Inv = s.Inv := by
  unfold State.finishArithmetic State.requestArithmetic; split <;> rfl

@[simp] theorem deliver_inv (s : State) (r : Reg) (cc1 : Bool) (w : Wide) : (s.deliver r cc1 w).Inv = s.Inv := by
  cases w <;> simp [State.deliver]

@[simp] theorem deliverNegative_inv (s : State) (r : Reg) (w : Wide) : (s.deliverNegative r w).Inv = s.Inv := by
  cases w <;> exact deliver_inv ..

@[simp] theorem addTo_inv (s : State) (r : Reg) (w : Wide) : (s.addTo r w).Inv = s.Inv := by
  cases w <;> exact deliver_inv ..

@[simp] theorem subtractFrom_inv (s : State) (r : Reg) (w : Wide) : (s.subtractFrom r w).Inv = s.Inv := by
  cases w <;> exact deliver_inv ..

@[simp] theorem multiply_inv (s : State) (r : Reg) (w : Word) : (s.multiply r w).Inv = s.Inv := deliver_inv ..

@[simp] theorem divide_inv (s : State) (r : Reg) (v : Word) : (s.divide r v).Inv = s.Inv := by
  unfold State.divide; dsimp only; split <;> simp

@[simp] theorem nextSign_inv (s : State) (r : Reg) : (s.nextSign r).2.Inv = s.Inv := by
  unfold State.nextSign; split <;> rfl

@[simp] theorem compareWith_inv (s : State) (r : Reg) (w : Wide) : (s.compareWith r w).Inv = s.Inv := by
  cases w <;> rfl

@[simp] theorem compareMasked_inv (s : State) (r : Reg) (w : Wide) : (s.compareMasked r w).Inv = s.Inv := by
  cases w <;> rfl

@[simp] theorem andInto_inv (s : State) (r : Reg) (d : Datum) : (s.andInto r d).Inv = s.Inv := by
  cases d <;> simp [State.andInto]

@[simp] theorem orInto_inv (s : State) (r : Reg) (w : Wide) : (s.orInto r w).Inv = s.Inv := by
  cases w <;> exact deliver_inv ..

@[simp] theorem xorInto_inv (s : State) (r : Reg) (w : Wide) : (s.xorInto r w).Inv = s.Inv := by
  cases w <;> exact deliver_inv ..

@[simp] theorem deliverFloatWord_inv (s : State) (r : Reg) (x : FloatResult 32) :
    (s.deliverFloatWord r x).Inv = s.Inv := by
  cases x <;> simp [State.deliverFloatWord]

@[simp] theorem deliverFloatDouble_inv (s : State) (r : Reg) (x : FloatResult 64) :
    (s.deliverFloatDouble r x).Inv = s.Inv := by
  cases x <;> simp [State.deliverFloatDouble]

/-- What touches memory, its parity, the channels and the requests alone keeps the invariant if it keeps the canonical
form. -/
theorem BusOnly.inv {s u : State} (hbus : BusOnly s u) (hmem : u.canonical = true) (h : s.Inv = true) :
    u.Inv = true :=
  inv_of_canonical h hmem (by rw [hbus]) (by rw [hbus]) (by rw [hbus]) (by rw [hbus])

theorem tick_inv {s : State} (h : s.Inv = true) : s.tick.Inv = true :=
  (tick_bus s).inv (tick_canonical s (inv_canonical h)) h

theorem afterRead_inv {s : State} (h : s.Inv = true) (e : Ea) : (s.afterRead e).Inv = true := by
  unfold State.afterRead
  cases e.format
  case double => exact tick_inv (tick_inv h)
  all_goals exact tick_inv h

theorem setByte_inv {s : State} (h : s.Inv = true) (a : Addr) (b : Byte) : (s.setByte a b).Inv = true :=
  inv_of_canonical h (setByte_canonical s a b (inv_canonical h)) rfl rfl rfl rfl

theorem setHalf_inv {s : State} (h : s.Inv = true) (a : Addr) (v : Half) : (s.setHalf a v).Inv = true :=
  inv_of_canonical h (setHalf_canonical s a v (inv_canonical h)) rfl rfl rfl rfl

theorem setWord_inv {s : State} (h : s.Inv = true) (w : WordAddr) (v : Word) : (s.setWord w v).Inv = true :=
  inv_of_canonical h (setWord_canonical s w v (inv_canonical h)) rfl rfl rfl rfl

theorem spoilParity_inv {s : State} (h : s.Inv = true) (w : WordAddr) : (s.spoilParity w).Inv = true :=
  inv_of_canonical h (spoilParity_canonical s w (inv_canonical h)) rfl rfl rfl rfl

theorem writeByte_inv {s : State} (h : s.Inv = true) (a : Addr) (b : Byte) : (s.writeByte a b).Inv = true :=
  setByte_inv (tick_inv h) a b

theorem writeWord_inv {s : State} (h : s.Inv = true) (w : WordAddr) (v : Word) : (s.writeWord w v).Inv = true :=
  setWord_inv (tick_inv h) w v

theorem write_inv {s : State} (h : s.Inv = true) (e : Ea) (d : Datum) : (s.write e d).Inv = true := by
  cases d with
  | byte b => exact writeByte_inv h _ _
  | half v => exact setHalf_inv (tick_inv h) _ _
  | word v => exact writeWord_inv h _ _
  | double v => exact writeWord_inv (writeWord_inv h _ _) _ _

theorem storeFile_inv (w : WordAddr) (r : Reg) (ns : List Reg) {s : State} (h : s.Inv = true) :
    (storeFile w r ns s).Inv = true := by
  induction ns generalizing s with
  | nil => exact h
  | cons n ns ih => exact ih (writeWord_inv h _ _)

theorem addToMemory_inv {s : State} (h : s.Inv = true) (r : Reg) (e : Ea) (d : Datum) :
    (s.addToMemory r e d).Inv = true := by
  cases d <;> simp [State.addToMemory, write_inv h]

/-! ## Whatever an instruction ends in -/

/-- Every state that a part of an instruction ends in, complete or not, has the invariant; `after` reads the state from
the answer. -/
def KeepsInv {α : Type} (after : α → State) : Act α → Prop
  | .ok a => (after a).Inv = true
  | .error (.trap _ u) => u.Inv = true
  | .error (.hang u) => u.Inv = true
  | .error (.fault _) => True

theorem KeepsInv.bind {α β : Type} {after : α → State} {after' : β → State} {r : Act α} {f : α → Act β}
    (h : KeepsInv after r) (k : ∀ a, (after a).Inv = true → KeepsInv after' (f a)) : KeepsInv after' (r >>= f) := by
  match r, h with
  | .ok a, h => exact k a h
  | .error (.trap _ _), h => exact h
  | .error (.hang _), h => exact h
  | .error (.fault _), _ => trivial

theorem KeepsInv.ite {α : Type} {after : α → State} {c : Prop} [Decidable c] {x y : Act α} (hx : KeepsInv after x)
    (hy : KeepsInv after y) : KeepsInv after (if c then x else y) := by
  split
  · exact hx
  · exact hy

section Parts

variable {s : State} (h : s.Inv = true)
include h

theorem privilegedOnly_keepsInv : KeepsInv (fun _ => s) (privilegedOnly s) := .ite h h

theorem checkPresent_keepsInv (w : WordAddr) : KeepsInv (fun _ => s) (checkPresent s w) := .ite h h

theorem checkWrite_keepsInv (w : WordAddr) : KeepsInv (fun _ => s) (checkWrite s w) := .ite h (.ite h (.ite h h))

theorem readCycle_keepsInv (w : WordAddr) : KeepsInv id (readCycle s w) := .ite (tick_inv h) (tick_inv h)

theorem readWord_keepsInv (w : WordAddr) : KeepsInv Prod.snd (readWord s w) :=
  .bind (checkPresent_keepsInv h w) fun _ h => .bind (readCycle_keepsInv h w) fun _ h => h

theorem readByte_keepsInv (a : Addr) : KeepsInv Prod.snd (readByte s a) :=
  .bind (checkPresent_keepsInv h _) fun _ h => .bind (readCycle_keepsInv h _) fun _ h => h

theorem fetch_keepsInv (e : Ea) : KeepsInv Prod.snd (fetch s e) :=
  .bind (checkPresent_keepsInv h _) fun _ h => .ite (afterRead_inv h e) (afterRead_inv h e)

theorem fetchForUpdate_keepsInv (e : Ea) : KeepsInv Prod.snd (fetchForUpdate s e) :=
  .bind (checkWrite_keepsInv h _) fun _ h => fetch_keepsInv h e

theorem store_keepsInv (e : Ea) (d : Datum) : KeepsInv id (store s e d) :=
  .bind (checkWrite_keepsInv h _) fun _ h => write_inv h e d

omit h in
theorem chase_keepsInv (fuel : Nat) (f : Bool) (c : BitVec 2) (a : Addr) {s : State} (h : s.Inv = true) :
    KeepsInv Prod.snd (chase fuel f c a s) := by
  induction fuel generalizing f c a s with
  | zero => exact h
  | succ n ih => exact .bind (readWord_keepsInv h _) fun _ h => .ite (ih _ _ _ h) h

theorem effAddr_keepsInv (m : MemRef) : KeepsInv Prod.snd (effAddr s m) := .ite (chase_keepsInv _ _ _ _ h) h

/-! ### The shapes of instructions -/

theorem withOperand_keepsInv (m : MemRef) {f : State → Datum → Act State}
    (hf : ∀ (u : State) (d : Datum), u.Inv = true → KeepsInv id (f u d)) : KeepsInv id (withOperand m f s) :=
  .bind (effAddr_keepsInv h m) fun p h => .bind (fetch_keepsInv h p.1) fun q h => hf q.2 q.1 h

theorem loadOp_keepsInv (r : Reg) (m : MemRef) : KeepsInv id (loadOp r m s) :=
  .bind (effAddr_keepsInv h m) fun p h => .bind (checkPresent_keepsInv h _) fun _ h =>
    have ht : ((p.2.afterRead p.1).deliver r false (p.2.seen p.1).extend).Inv = true :=
      (deliver_inv _ _ _ _).trans (afterRead_inv h p.1)
    .ite ht ht

theorem loadMaskedOp_keepsInv (r : Reg) (m : MemRef) : KeepsInv id (loadMaskedOp r m s) :=
  withOperand_keepsInv h m fun _ _ h => (deliver_inv ..).trans h

theorem loadNegativeOp_keepsInv (r : Reg) (m : MemRef) : KeepsInv id (loadNegativeOp r m s) :=
  withOperand_keepsInv h m fun _ _ h => (deliverNegative_inv ..).trans h

theorem addMemoryOp_keepsInv (r : Reg) (m : MemRef) : KeepsInv id (addMemoryOp r m s) :=
  withOperand_keepsInv h m fun _ _ h => (addTo_inv ..).trans h

theorem subtractMemoryOp_keepsInv (r : Reg) (m : MemRef) : KeepsInv id (subtractMemoryOp r m s) :=
  withOperand_keepsInv h m fun _ _ h => (subtractFrom_inv ..).trans h

theorem andMemoryOp_keepsInv (r : Reg) (m : MemRef) : KeepsInv id (andMemoryOp r m s) :=
  withOperand_keepsInv h m fun _ _ h => (andInto_inv ..).trans h

theorem orMemoryOp_keepsInv (r : Reg) (m : MemRef) : KeepsInv id (orMemoryOp r m s) :=
  withOperand_keepsInv h m fun _ _ h => (orInto_inv ..).trans h

theorem xorMemoryOp_keepsInv (r : Reg) (m : MemRef) : KeepsInv id (xorMemoryOp r m s) :=
  withOperand_keepsInv h m fun _ _ h => (xorInto_inv ..).trans h

theorem compareMemoryOp_keepsInv (r : Reg) (m : MemRef) : KeepsInv id (compareMemoryOp r m s) :=
  withOperand_keepsInv h m fun _ _ h => (compareWith_inv ..).trans h

theorem compareMaskedMemoryOp_keepsInv (r : Reg) (m : MemRef) : KeepsInv id (compareMaskedMemoryOp r m s) :=
  withOperand_keepsInv h m fun _ _ h => (compareMasked_inv ..).trans h

theorem withWordOperand_keepsInv (m : MemRef) {f : State → Word → State}
    (hf : ∀ (u : State) (w : Word), u.Inv = true → (f u w).Inv = true) : KeepsInv id (withWordOperand m f s) := by
  refine .bind (effAddr_keepsInv h m) fun p h => .ite trivial (.bind (fetch_keepsInv h p.1) fun q h => ?_)
  dsimp only
  cases q.1.extend with
  | one w => exact hf q.2 w h
  | two d => trivial

theorem multiplyMemoryOp_keepsInv (r : Reg) (m : MemRef) : KeepsInv id (multiplyMemoryOp r m s) :=
  withWordOperand_keepsInv h m fun _ _ h => (multiply_inv ..).trans h

theorem divideMemoryOp_keepsInv (r : Reg) (m : MemRef) : KeepsInv id (divideMemoryOp r m s) :=
  withWordOperand_keepsInv h m fun _ _ h => (divide_inv ..).trans h

theorem addRegisterToMemoryOp_keepsInv (r : Reg) (m : MemRef) : KeepsInv id (addRegisterToMemoryOp r m s) :=
  .bind (effAddr_keepsInv h m) fun p h => .bind (fetchForUpdate_keepsInv h p.1) fun q h =>
    addToMemory_inv h r p.1 q.1

theorem floatOp_keepsInv (f : {n : Nat} → BitVec n → BitVec n → FloatResult n) (r : Reg) (m : MemRef) :
    KeepsInv id (floatOp f r m s) :=
  .ite h <| .bind (effAddr_keepsInv h m) fun _ h =>
    .ite (.bind (readWord_keepsInv h _) fun _ h => (deliverFloatWord_inv ..).trans h) <|
      .ite (.bind (readWord_keepsInv h _) fun _ h => .bind (readWord_keepsInv h _) fun _ h =>
        (deliverFloatDouble_inv ..).trans h) trivial

theorem changeBit_keepsInv (m : MemRef) (n : BitVec 3) (f : Byte → Byte) : KeepsInv id (changeBit m n f s) :=
  .bind (effAddr_keepsInv h m) fun _ h => .bind (checkWrite_keepsInv h _) fun _ h =>
    .bind (readByte_keepsInv h _) fun _ h => writeByte_inv h _ _

theorem storing_keepsInv (m : MemRef) (f : Format → Datum) : KeepsInv id (storing m f s) :=
  .bind (effAddr_keepsInv h m) fun p h => store_keepsInv h p.1 _

theorem branchIf_keepsInv (c : Bool) (m : MemRef) : KeepsInv id (branchIf c m s) :=
  .ite (.bind (effAddr_keepsInv h m) fun _ h => h) h

theorem branchIncrement_keepsInv (k : Word) (r : Reg) (m : MemRef) : KeepsInv id (branchIncrement k r m s) :=
  .ite h (.bind (effAddr_keepsInv h _) fun _ h => h)

omit h in
theorem loadFile_keepsInv (w : WordAddr) (r : Reg) (ns : List Reg) {s : State} (h : s.Inv = true) :
    KeepsInv id (loadFile w r ns s) := by
  induction ns generalizing s with
  | nil => exact h
  | cons n ns ih => exact .bind (readCycle_keepsInv h _) fun _ h => ih h

end Parts

/-- EI and DI reach no level below 12H (49 R411). -/
theorem of_enableable {s : State} {n : Level} (hn : s.enableable n = true) : 0x12 ≤ n.toNat := by
  simp only [State.enableable, Bool.and_eq_true, decide_eq_true_eq] at hn
  exact hn.1

/-- A level that RI, AI and DAI reach is no transfer interrupt (49 R411). -/
theorem of_controllable {s : State} {n : Level} (hn : s.controllable n = true) : n.toNat < 0x02 ∨ 0x11 < n.toNat := by
  simp only [State.controllable, Bool.and_eq_true, Bool.or_eq_true, decide_eq_true_eq] at hn
  omega

section Instructions

variable {s : State} (h : s.Inv = true)
include h

/-! ### The instructions with a shape of their own -/

theorem opLea_keepsInv (r : Reg) (m : MemRef) : KeepsInv id (opLea r m s) :=
  .bind (effAddr_keepsInv h m) fun _ h => h

theorem opLf_keepsInv (r : Reg) (m : MemRef) : KeepsInv id (opLf r m s) :=
  .bind (effAddr_keepsInv h m) fun _ h => .bind (checkPresent_keepsInv h _) fun _ h => loadFile_keepsInv _ r _ h

theorem opStf_keepsInv (r : Reg) (m : MemRef) : KeepsInv id (opStf r m s) :=
  .bind (effAddr_keepsInv h m) fun _ h => .bind (checkWrite_keepsInv h _) fun _ h => storeFile_inv _ r _ h

theorem opRnd_keepsInv (r : Reg) : KeepsInv id (opRnd r s) := by
  have hn : (s.nextSign r).2.Inv = true := (nextSign_inv s r).trans h
  exact inv_ite (fun _ => (deliver_inv ..).trans hn) ((deliver_inv ..).trans hn)

theorem opAbm_keepsInv (n : BitVec 3) (m : MemRef) : KeepsInv id (opAbm n m s) :=
  .bind (effAddr_keepsInv h m) fun _ h => .bind (checkWrite_keepsInv h _) fun _ h =>
    .bind (readWord_keepsInv h _) fun _ h => (finishArithmetic_inv ..).trans (writeWord_inv h _ _)

theorem opTbm_keepsInv (n : BitVec 3) (m : MemRef) : KeepsInv id (opTbm n m s) :=
  .bind (effAddr_keepsInv h m) fun _ h => .bind (readByte_keepsInv h _) fun _ h => h

theorem opBl_keepsInv (m : MemRef) : KeepsInv id (opBl m s) :=
  .bind (effAddr_keepsInv h m) fun _ h => h

/-- BRI clears an active latch and sets none (45 R324). -/
theorem returnFromInterrupt_inv (e : Ea) : (returnFromInterrupt s e).Inv = true := by
  have hreset : s.resetHighestActive.Inv = true := by
    unfold State.resetHighestActive
    split
    · exact inv_of_latches h ((inv_latches h).clearActive _) rfl rfl rfl
    · exact h
  exact hreset

theorem opBri_keepsInv (m : MemRef) : KeepsInv id (opBri m s) :=
  .bind (privilegedOnly_keepsInv h) fun _ h => .bind (effAddr_keepsInv h m) fun p h => returnFromInterrupt_inv h p.1

theorem opTrp_keepsInv (k : BitVec 4) (r : Reg) : KeepsInv id (opTrp k r s) := .ite h (.ite h h)

theorem opTpr_keepsInv (k : BitVec 4) (r : Reg) : KeepsInv id (opTpr k r s) := .ite h (.ite h h)

theorem opHalt_keepsInv : KeepsInv id (opHalt s) := .bind (privilegedOnly_keepsInv h) fun _ h => h

theorem opEi_keepsInv (n : Level) : KeepsInv id (opEi n s) :=
  .bind (privilegedOnly_keepsInv h) fun _ h => inv_ite
    (fun hn => inv_of_latches h ((inv_latches h).setEnabled n true (of_enableable hn)) rfl rfl rfl) h

theorem opDi_keepsInv (n : Level) : KeepsInv id (opDi n s) :=
  .bind (privilegedOnly_keepsInv h) fun _ h => inv_ite
    (fun hn => inv_of_latches h ((inv_latches h).setEnabled n false (of_enableable hn)) rfl rfl rfl) h

theorem opRi_keepsInv (n : Level) : KeepsInv id (opRi n s) :=
  .bind (privilegedOnly_keepsInv h) fun _ h => inv_ite (fun _ => h) h

theorem opAi_keepsInv (n : Level) : KeepsInv id (opAi n s) :=
  .bind (privilegedOnly_keepsInv h) fun _ h => inv_ite
    (fun hn => inv_of_latches h ((inv_latches h).setActive n true (of_controllable hn)) rfl rfl rfl) h

theorem opDai_keepsInv (n : Level) : KeepsInv id (opDai n s) :=
  .bind (privilegedOnly_keepsInv h) fun _ h => inv_ite
    (fun _ => inv_of_latches h ((inv_latches h).clearActive n) rfl rfl rfl) h

theorem opCd_keepsInv (device : BitVec 7) (code : BitVec 16) : KeepsInv id (opCd device code s) :=
  .bind (privilegedOnly_keepsInv h) fun _ h => inv_ite (fun _ => h) h

theorem opTd_keepsInv (device : BitVec 7) (code : BitVec 16) : KeepsInv id (opTd device code s) :=
  .bind (privilegedOnly_keepsInv h) fun _ h => inv_ite (fun _ => h) h

/-! ### Every instruction -/

/-- What an instruction does as a subject keeps the invariant. -/
theorem subjectOp_keepsInv (i : Instr) : KeepsInv id (subjectOp i s) := by
  cases i with
  | lb r m | lh r m | lw r m | ld r m => exact loadOp_keepsInv h r m
  | lmb r m | lmh r m | lmw r m | lmd r m => exact loadMaskedOp_keepsInv h r m
  | lnb r m | lnh r m | lnw r m | lnd r m => exact loadNegativeOp_keepsInv h r m
  | lea r m => exact opLea_keepsInv h r m
  | lf r m => exact opLf_keepsInv h r m
  | stb r m | sth r m | stw r m | std r m => exact storing_keepsInv h m (s.storeDatum r)
  | stmb r m | stmh r m | stmw r m | stmd r m => exact storing_keepsInv h m fun k => (s.storeDatum r k).masked s.mask
  | zmb m | zmh m | zmw m | zmd m => exact storing_keepsInv h m Format.zero
  | stf r m => exact opStf_keepsInv h r m
  | admb r m | admh r m | admw r m | admd r m => exact addMemoryOp_keepsInv h r m
  | sumb r m | sumh r m | sumw r m | sumd r m => exact subtractMemoryOp_keepsInv h r m
  | armb r m | armh r m | armw r m | armd r m => exact addRegisterToMemoryOp_keepsInv h r m
  | mpmb r m | mpmh r m | mpmw r m => exact multiplyMemoryOp_keepsInv h r m
  | dvmb r m | dvmh r m | dvmw r m => exact divideMemoryOp_keepsInv h r m
  | adfw r m | adfd r m | sufw r m | sufd r m | mpfw r m | mpfd r m | dvfw r m | dvfd r m =>
    exact floatOp_keepsInv h _ r m
  | anmb r m | anmh r m | anmw r m | anmd r m => exact andMemoryOp_keepsInv h r m
  | ormb r m | ormh r m | ormw r m | ormd r m => exact orMemoryOp_keepsInv h r m
  | eomb r m | eomh r m | eomw r m | eomd r m => exact xorMemoryOp_keepsInv h r m
  | camb r m | camh r m | camw r m | camd r m => exact compareMemoryOp_keepsInv h r m
  | cmmb r m | cmmh r m | cmmw r m | cmmd r m => exact compareMaskedMemoryOp_keepsInv h r m
  | li | lcs | adrm | surm | anr | orr | orrm | eor | eorm | trr | trrm | trn | trnm | trc | trcm =>
    exact (deliver_inv ..).trans h
  | adr | adi | abr => exact (addTo_inv ..).trans h
  | sur | sui => exact (subtractFrom_inv ..).trans h
  | mpr | mpi => exact (multiply_inv ..).trans h
  | dvr | dvi => exact (divide_inv ..).trans h
  | car | ci => exact (compareWith_inv ..).trans h
  | cmr => exact (compareMasked_inv ..).trans h
  | es r => exact (deliver_inv ..).trans ((nextSign_inv s r).trans h)
  | rnd r => exact opRnd_keepsInv h r
  | sla | slad => exact (finishArithmetic_inv ..).trans h
  | zr | xcr | xcrm | sbr | zbr | tbr | nor | nord | scz | sll | slc | slld | sra | srl | src | srad | srld => exact h
  | sbm n m => exact changeBit_keepsInv h m n (fun b => b ||| bitOfByte n)
  | zbm n m => exact changeBit_keepsInv h m n (fun b => b &&& ~~~(bitOfByte n))
  | abm n m => exact opAbm_keepsInv h n m
  | tbm n m => exact opTbm_keepsInv h n m
  | bu m => exact branchIf_keepsInv h true m
  | bct d m => exact branchIf_keepsInv h (conditionTrue s.psw.cc d) m
  | bcf d m => exact branchIf_keepsInv h (!conditionTrue s.psw.cc d) m
  | bft m => exact branchIf_keepsInv h (functionTrue s.mask s.psw.cc) m
  | bl m => exact opBl_keepsInv h m
  | bib r m | bih r m | biw r m | bid r m => exact branchIncrement_keepsInv h _ r m
  | bri m => exact opBri_keepsInv h m
  | trp k r => exact opTrp_keepsInv h k r
  | tpr k r => exact opTpr_keepsInv h k r
  | halt => exact opHalt_keepsInv h
  | trsw | wait | nop | calm | exr | exrr | exm => exact h
  | ei n => exact opEi_keepsInv h n
  | di n => exact opDi_keepsInv h n
  | ri n => exact opRi_keepsInv h n
  | ai n => exact opAi_keepsInv h n
  | dai n => exact opDai_keepsInv h n
  | cd device code => exact opCd_keepsInv h device code
  | td device code => exact opTd_keepsInv h device code

theorem executeSubject_keepsInv (bytes : List Byte) : KeepsInv id (executeSubject bytes s) := by
  unfold executeSubject
  split
  · exact subjectOp_keepsInv h _
  · exact h

theorem opExm_keepsInv (m : MemRef) : KeepsInv id (opExm m s) :=
  .bind (effAddr_keepsInv h m) fun _ h => .bind (readWord_keepsInv h _) fun _ h =>
    .ite (executeSubject_keepsInv h _) (executeSubject_keepsInv h _)

end Instructions

/-- The effect of an instruction with the program count advanced: that of a subject, but for the execute instructions,
which are none (48 R398). -/
def operation (i : Instr) (s : State) : Act State :=
  match i with
  | .exr r => opExr r s
  | .exrr r => opExrr r s
  | .exm m => opExm m s
  | i => subjectOp i s

/-- Every instruction of the program is its operation between the advance and the traps. -/
theorem exec_eq_complete (i : Instr) (s : State) :
    ∃ len, exec i s = complete len s.psw.pc (operation i (s.advance len)) := by
  cases i <;> exact ⟨_, rfl⟩

theorem operation_keepsInv {s : State} (h : s.Inv = true) (i : Instr) : KeepsInv id (operation i s) := by
  unfold operation
  split
  · exact executeSubject_keepsInv h _
  · exact executeSubject_keepsInv h _
  · exact opExm_keepsInv h _
  · exact subjectOp_keepsInv h _

/-! ## Exceptions -/

/-- The next state, if there is one, has the invariant. -/
def NextInv (o : Host.Outcome State Fault Refusal) : Prop := ∀ t, o = .next t → t.Inv = true

theorem nextInv_next {s : State} (h : s.Inv = true) : NextInv (.next s) := by
  rintro t ⟨⟩; exact h

section Exceptions

variable {s : State} (h : s.Inv = true)
include h

/-- Entry sets the active latch of its level, which must be no transfer interrupt (60 R447, R453). -/
theorem enter_inv {t : State} {n : Level} {trapForm : Bool} (hn : n.toNat < 0x02 ∨ 0x11 < n.toNat)
    (he : enter s n trapForm = .ok t) : t.Inv = true := by
  obtain ⟨-, rfl⟩ := enter_ok s t n trapForm he
  have hw := writeWord_inv (tick_inv h) (saveLocation (s.tick.wordAt (dedicatedAddr n trapForm).wordAddr)) s.psw.word
  have hl : LatchesLegal s.enabled (setLevel s.active n true) := (inv_latches h).setActive n true hn
  refine inv_of_latches hw ?_ rfl rfl rfl
  simpa [State.writeWord] using hl

theorem entered_nextInv {n : Level} (trapForm : Bool) (hn : n.toNat < 0x02 ∨ 0x11 < n.toNat) :
    NextInv (entered (enter s n trapForm)) := by
  cases he : enter s n trapForm with
  | ok t => exact nextInv_next (enter_inv h hn he)
  | error f => rintro t ⟨⟩

/-- A trap enters its level or advances past the instruction (60 R432). -/
theorem raise_nextInv (t : Trap) (len : BitVec 18) : NextInv (raise t len s) := by
  unfold raise
  split
  · exact entered_nextInv h true (by cases t <;> decide)
  · exact nextInv_next h

/-- An endless chain enters level 00H or 01H or goes on (70 R504). -/
theorem endlessChain_nextInv : NextInv (endlessChain s) := by
  unfold endlessChain
  split
  · exact entered_nextInv h true (by decide)
  · split
    · exact entered_nextInv h true (by decide)
    · exact nextInv_next h

end Exceptions

theorem complete_nextInv (len pc : BitVec 18) {r : Act State} (h : KeepsInv id r) : NextInv (complete len pc r) := by
  match r, h with
  | .ok t, h => exact nextInv_next h
  | .error (.trap t u), h => exact raise_nextInv (s := u.setPc pc) h t len
  | .error (.hang u), h => exact endlessChain_nextInv (s := u.setPc pc) h
  | .error (.fault f), _ => rintro t ⟨⟩

theorem exec_nextInv (i : Instr) {s : State} (h : s.Inv = true) : NextInv (exec i s) := by
  obtain ⟨len, he⟩ := exec_eq_complete i s
  rw [he]
  exact complete_nextInv len _ (operation_keepsInv (s := s.advance len) h i)

/-! ## What stands before an instruction -/

theorem applyBus_inv {s : State} (h : s.Inv = true) (b : BusEvent) : (applyBus s b).Inv = true :=
  (applyBus_bus s b).inv (applyBus_canonical s b (inv_canonical h)) h

theorem aios_inv {s : State} (h : s.Inv = true) : (aios s).Inv = true :=
  (aios_bus s).inv (aios_canonical s (inv_canonical h)) h

/-- Power returns with no latch but the request of 00H and with SEMI clear (70 R491 (a), R495). -/
theorem powerOn_inv {s : State} (h : s.Inv = true) (regs : Vector Word 8) (psw : Psw) (protect : Vector (BitVec 24) 16)
    (channels : Vector Channel 16) (timer : Word) (lamp : Bool) :
    (s.powerOn regs psw protect channels timer lamp).Inv = true := by
  obtain ⟨hmem, -, -, hlegal⟩ := (inv_iff s).1 h
  exact (inv_iff _).2 ⟨hmem, latchesLegal_zero, by simp [State.semiLegal, State.powerOn], hlegal⟩

theorem timerDown_inv {s : State} (h : s.Inv = true) : s.timerDown.Inv = true :=
  inv_ite (fun _ => (signal_inv ..).trans h) h

/-- An event keeps the invariant: those of the bus, of the power and of the operator's memory writes by their own lemmas,
the others since they touch nothing it speaks of. -/
theorem applyEvent_inv {s : State} (h : s.Inv = true) (e : Event) : (applyEvent s e).Inv = true := by
  cases e with
  | bus b => exact applyBus_inv h b
  | powerOn regs psw protect channels timer lamp => exact powerOn_inv h ..
  | parityFault wa => exact spoilParity_inv h wa
  | clockTick | override | powerOff => exact (signal_inv ..).trans h
  | powerLost | commandTaken => exact h
  | external | service => exact inv_ite (fun _ => (signal_inv ..).trans h) h
  | console => exact inv_ite (fun _ => h) ((signal_inv ..).trans h)
  | timerCount => exact inv_ite (fun _ => timerDown_inv h) h
  | operatorMemory wa v => exact inv_ite (fun _ => setWord_inv h wa v) h
  | timerLoad | operatorHalt | operatorRun | operatorRegister | operatorPsw | controlSwitches | keyswitch | keylock =>
    exact inv_ite (fun _ => h) h

theorem applyEvents_inv (es : List Event) {s : State} (h : s.Inv = true) : (es.foldl applyEvent s).Inv = true := by
  induction es generalizing s with
  | nil => exact h
  | cons e es ih => exact ih (applyEvent_inv h e)

theorem arrivals_inv {s : State} (h : s.Inv = true) : (arrivals s).Inv = true := by
  unfold arrivals
  split
  · split
    · exact h
    · exact aios_inv h
  · exact applyEvents_inv _ h

/-- The level of highest priority is one of the levels asked about. -/
theorem mem_of_highest {s : State} {ns : List Level} {n : Level} (h : s.highest ns = some n) : n ∈ ns := by
  induction ns generalizing n with
  | nil => cases h
  | cons k ks ih =>
    unfold State.highest at h
    split at h
    · cases h; exact List.mem_cons_self
    · rename_i m hm
      split at h <;> cases h
      · exact List.mem_cons_of_mem _ (ih hm)
      · exact List.mem_cons_self

theorem not_transfer_of_serviceable {s : State} {n : Level} (h : s.serviceable n = true) :
    n.toNat < 0x02 ∨ 0x11 < n.toNat := by
  simp only [State.serviceable, Bool.and_eq_true, Bool.or_eq_true, decide_eq_true_eq] at h
  exact h.1.2

/-- The service check enters no transfer interrupt (60 R454). -/
theorem serviceCheck_inv {s t : State} (h : s.Inv = true) (hs : serviceCheck s = .ok t) : t.Inv = true := by
  unfold serviceCheck at hs
  split at hs
  · cases hs; exact h
  · split at hs
    · rename_i n hn
      exact enter_inv h (not_transfer_of_serviceable (List.mem_filter.1 (mem_of_highest hn)).2) hs
    · cases hs; exact h

/-- Only with option 8610 does the keyswitch set SEMI (60 R460, R461). -/
theorem adoptKeyswitch_inv {s : State} (h : s.Inv = true) : (adoptKeyswitch s).Inv = true := by
  by_cases ha : Adopts s
  · obtain ⟨hmem, hlatch, -, hlegal⟩ := (inv_iff s).1 h
    rw [adoptKeyswitch_of_adopts ha]
    exact (inv_iff _).2 ⟨hmem, hlatch, by simp [State.semiLegal, ha.2.1], hlegal⟩
  · rwa [adoptKeyswitch_of_not_adopts ha]

/-- The state in which a step goes on, if it goes on, has the invariant. -/
def ReadyInv : Ready → Prop
  | .idle s => s.Inv = true
  | .stopped _ => True
  | .trapped _ _ s => s.Inv = true
  | .run _ s => s.Inv = true

theorem fetchInstruction_readyInv {s : State} (h : s.Inv = true) : ReadyInv (fetchInstruction s) := by
  unfold fetchInstruction
  dsimp only
  split
  · exact h
  · split
    · exact tick_inv h
    · split <;> exact adoptKeyswitch_inv (tick_inv h)

theorem serviceAndFetch_readyInv {s : State} (h : s.Inv = true) : ReadyInv (serviceAndFetch s) := by
  unfold serviceAndFetch
  split
  · trivial
  · rename_i t ht
    have hinv := serviceCheck_inv h ht
    split
    · exact fetchInstruction_readyInv hinv
    · exact hinv

theorem prepare_readyInv {s : State} (h : s.Inv = true) : ReadyInv (prepare s) :=
  serviceAndFetch_readyInv (arrivals_inv h)

/-- Settles O2: what stands before the instruction keeps the invariant, and so does every way in which the step can then
end. -/
theorem invariantKeptByStep : Obligations.InvariantKeptByStep := by
  intro s t h hstep
  have hready := prepare_readyInv h
  unfold step at hstep
  match hp : prepare s with
  | .idle u => rw [hp] at hstep hready; exact nextInv_next hready t hstep
  | .stopped f => rw [hp] at hstep; cases hstep
  | .trapped trap len u => rw [hp] at hstep hready; exact raise_nextInv hready trap len t hstep
  | .run i u => rw [hp] at hstep hready; exact exec_nextInv i hready t hstep

end Sys2Proof.Machine

/-!
The statements about the state: the machine after reset (O3, O6), the run states in which a step does nothing (O9), and
the transfers to and from the protect registers (O49).
-/

namespace Sys2Proof.Machine

/-! ## The state after reset (10_state.md R57, 70_reset_and_hazards.md R491, R495) -/

@[simp] theorem hasLevel_zero (n : Level) : hasLevel 0#128 n = false := BitVec.getLsbD_zero

/-- The latch set that holds level 00H alone. -/
theorem hasLevel_one (n : Level) : hasLevel 1#128 n = (n == 0x00#7) := getLsbD_levelBit 0x00#7 n

theorem standard_legal : Params.standard.legal = true := by decide

/-- Settles O3: part by part, memory is empty, no latch but a request is set, SEMI is clear and the installation is the
standard one. -/
theorem invariantAtReset : Obligations.InvariantAtReset :=
  (inv_iff _).2 ⟨reset_canonical, latchesLegal_zero, rfl, standard_legal⟩

/-- Settles O6: the named fields stand in `State.reset` as stated, the latches level by level. -/
theorem resetState : Obligations.ResetState :=
  ⟨rfl, rfl, rfl, rfl, rfl, fun n => ⟨hasLevel_zero n, hasLevel_zero n, hasLevel_one n⟩⟩

/-! ## HALT, WAIT and no power (10_state.md R49, 48_control.md R393, R394, 70 R513) -/

theorem stopped_iff (s : State) : s.stopped = true ↔ s.run = .halt ∨ s.run = .off := by
  simp [State.stopped]

/-- In HALT and without power the AIOS does not act, whatever transfer is pending. -/
theorem arrivals_stopped {s : State} (hin : s.inputs = []) (h : s.stopped = true) :
    arrivals s = { s with within := [] } := by
  simp [arrivals, hin, h]

/-- With no event and no transfer pending only what was listed for the bus is used up. -/
theorem arrivals_quiet {s : State} (hin : s.inputs = []) (hch : ∀ k : Fin 16, s.channels[k].transfer = none) :
    arrivals s = { s with within := [] } := by
  simp [arrivals, hin, aios_idle s hch]

/-- In HALT and without power no level is serviced, whatever is requested. -/
theorem serviceCheck_stopped {s : State} (h : s.stopped = true) : serviceCheck s = .ok s := by
  simp [serviceCheck, h]

/-- A step with nothing to service and the machine not running ends in the state after the arrivals. -/
theorem step_idle {s t : State} (harrive : arrivals s = t) (hservice : serviceCheck t = .ok t) (hrun : t.run ≠ .run) :
    step s = .next t := by
  simp [step, prepare, harrive, serviceAndFetch, hservice, hrun]

theorem step_stopped {s : State} (hin : s.inputs = []) (h : s.stopped = true) :
    step s = .next { s with within := [] } := by
  refine step_idle (arrivals_stopped hin h) (serviceCheck_stopped h) ?_
  rcases (stopped_iff s).1 h with hrun | hrun <;> simp [hrun]

theorem step_waiting {s : State} (hin : s.inputs = []) (hrun : s.run = .wait)
    (hch : ∀ k : Fin 16, s.channels[k].transfer = none) (hs : ∀ n, s.serviceable n = false) :
    step s = .next { s with within := [] } :=
  step_idle (arrivals_quiet hin hch) (serviceCheck_idle _ hs) (by simp [hrun])

/-- A channel that asks for a transfer changes nothing but itself. -/
theorem askTransfer_channels (s : State) (k : Fin 16) (dir : Direction) (d : Word) :
    s.askTransfer k dir d = { s with channels := (s.askTransfer k dir d).channels } := by
  unfold State.askTransfer
  split <;> rfl

/-- In HALT and without power only requests for a transfer are noticed on the bus: there are no cycles. -/
theorem applyBus_stopped {s : State} (h : s.stopped = true) (b : BusEvent) :
    applyBus s b = { s with channels := (applyBus s b).channels } := by
  cases b with
  | input k datum => exact askTransfer_channels s k .input datum
  | output k => exact askTransfer_channels s k .output s.channels[k].data
  | cycle k => simp [applyBus, h]
  | snapshot k wa v => simp [applyBus, h]

/-- Settles O9: neither the arrivals nor the service check change a machine that is stopped or waits for nothing, and it
fetches nothing. -/
theorem haltAndWaitIdle : Obligations.HaltAndWaitIdle := fun s =>
  ⟨fun hin h => step_stopped hin ((stopped_iff s).2 h),
    fun hin hrun hch hs => step_waiting hin hrun hch hs,
    fun h b => ⟨_, rfl, applyBus_stopped ((stopped_iff s).2 h) b⟩⟩

/-! ## The protect registers (10_state.md R37, R38, 46_register_transfer.md R348, R349) -/

section Protect

variable {s : State} {k : BitVec 4}

/-- With option 8610 the kind of an installed module says which of its protection is in force. -/
theorem protected_of_kind {c : ModuleKind} (h : s.cfg.optRtm = true) (hk : s.kindOf k = some c) :
    s.portProtected k = c.hasPortProtect ∧ s.pageProtected k = c.hasPageProtect := by
  simp [State.portProtected, State.pageProtected, h, hk]

theorem not_protected_of_absent (hk : s.kindOf k = none) :
    s.portProtected k = false ∧ s.pageProtected k = false := by
  simp [State.portProtected, State.pageProtected, hk]

/-- Only a module of kind 8634 has port-access bits in force. -/
theorem portProtected_iff (h : s.cfg.optRtm = true) : s.portProtected k = true ↔ s.kindOf k = some .k8634 := by
  cases hk : s.kindOf k with
  | none => simp [(not_protected_of_absent hk).1]
  | some c => cases c <;> simp [(protected_of_kind h hk).1, ModuleKind.hasPortProtect]

/-- What TRP stores into the register of a module (46 R348), by its kind. -/
theorem loadProtect_port (hp : s.portProtected k = true) (v : Word) :
    s.loadProtect k v = { s with protect := s.protect.set k.toNat (v.setWidth 24) k.isLt } := by
  simp [State.loadProtect, hp, BitVec.setWidth_eq_extractLsb']

theorem loadProtect_page (hp : s.portProtected k = false) (hg : s.pageProtected k = true) (v : Word) :
    s.loadProtect k v = { s with
      protect := s.protect.set k.toNat ((s.protect[k.toNat]'k.isLt).extractLsb' 16 8 ++ v.setWidth 16) k.isLt } := by
  simp [State.loadProtect, hp, hg, BitVec.setWidth_eq_extractLsb']

theorem loadProtect_none (hp : s.portProtected k = false) (hg : s.pageProtected k = false) (v : Word) :
    s.loadProtect k v = { s with
      protect := s.protect.set k.toNat (s.protect[k.toNat]'k.isLt) k.isLt } := by
  simp [State.loadProtect, hp, hg]

/-- What TPR reads from the register of a module (46 R349), by its kind. -/
theorem readProtect_port (hp : s.portProtected k = true) : s.readProtect k = (s.protectReg k).setWidth 32 := by
  simp [State.readProtect, hp, BitVec.setWidth_eq_append]

theorem readProtect_page (hp : s.portProtected k = false) (hg : s.pageProtected k = true) :
    s.readProtect k = ((s.protectReg k).setWidth 16).setWidth 32 := by
  simp [State.readProtect, hp, hg, BitVec.setWidth_eq_append, BitVec.setWidth_eq_extractLsb']

theorem readProtect_none (hp : s.portProtected k = false) (hg : s.pageProtected k = false) :
    s.readProtect k = 0#32 := by
  simp [State.readProtect, hp, hg]

variable (h : s.cfg.optRtm = true) (r : Reg)
include h

theorem opTrp_privileged (hpriv : s.psw.priv = true) : opTrp k r s = .ok (s.loadProtect k (s.reg r)) := by
  simp [opTrp, h, State.notPrivileged, hpriv]

/-- A module closed to port 2. -/
theorem opTpr_closed (hk : s.kindOf k = some .k8634) (hport : s.port2 k = 0#2) :
    opTpr k r s = .error (.trap .nonPresentMemory s) := by
  simp [opTpr, h, (portProtected_iff h).2 hk, hport]

theorem opTpr_open (hopen : s.kindOf k ≠ some .k8634 ∨ s.port2 k ≠ 0#2) :
    opTpr k r s = .ok (s.setReg r (s.readProtect k)) := by
  have hport : ¬ (s.portProtected k = true ∧ s.port2 k = 0#2) := by
    rw [portProtected_iff h]; tauto
  simp [opTpr, h, hport]

theorem exec_trp (hpriv : s.psw.priv = true) :
    exec (.trp k r) s = .next ((s.advance 2#18).loadProtect k (s.reg r)) :=
  runWord_ok _ _ _ (opTrp_privileged (s := s.advance 2#18) h r hpriv)

theorem exec_tpr_closed (hk : s.kindOf k = some .k8634) (hport : s.port2 k = 0#2) :
    exec (.tpr k r) s = raise .nonPresentMemory 2#18 s :=
  runWord_trap _ s _ (opTpr_closed (s := s.advance 2#18) h r hk hport)

theorem exec_tpr_open (hopen : s.kindOf k ≠ some .k8634 ∨ s.port2 k ≠ 0#2) :
    exec (.tpr k r) s = .next ((s.advance 2#18).setReg r (s.readProtect k)) :=
  runWord_ok _ _ _ (opTpr_open (s := s.advance 2#18) h r hopen)

end Protect

/-- Settles O49: TRP is `State.loadProtect` and TPR is `State.readProtect`, whose values the kind of the module
decides; the statement's `full` is what the protect register reads as, `State.protectReg`. -/
theorem protectRegisterTransfers : Obligations.ProtectRegisterTransfers := by
  intro s k r h old full
  refine ⟨fun hpriv => ?trp, exec_tpr_closed h r, fun hopen => ?tpr⟩
  case trp =>
    refine (exec_trp h r hpriv).trans (congrArg _ ?_)
    cases hk : s.kindOf k with
    | none =>
      obtain ⟨hp, hg⟩ := not_protected_of_absent hk
      exact loadProtect_none (s := s.advance 2#18) hp hg _
    | some c =>
      obtain ⟨hp, hg⟩ := protected_of_kind h hk
      cases c with
      | k8634 => exact loadProtect_port (s := s.advance 2#18) hp _
      | k8631 | k8633 => exact loadProtect_page (s := s.advance 2#18) hp hg _
      | k8630 | k8632 => exact loadProtect_none (s := s.advance 2#18) hp hg _
  case tpr =>
    rw [exec_tpr_open h r hopen]
    congr 2
    cases hk : s.kindOf k with
    | none =>
      obtain ⟨hp, hg⟩ := not_protected_of_absent hk
      exact readProtect_none hp hg
    | some c =>
      obtain ⟨hp, hg⟩ := protected_of_kind h hk
      cases c with
      | k8634 => exact readProtect_port hp
      | k8631 | k8633 => exact readProtect_page hp hg
      | k8630 | k8632 => exact readProtect_none hp hg

end Sys2Proof.Machine

/-!
What a store leaves in memory: the operand reads back, every byte outside it reads as before, and the pages of the words
that an operand or a file of registers takes.
-/

namespace Sys2Proof.Machine

/-! ## Addresses (20_memory.md R62, R63, R75) -/

@[simp] theorem wordAddr_append (w : WordAddr) (c : BitVec 2) : Addr.wordAddr (w ++ c) = w :=
  BitVec.extractLsb'_append_eq_left

@[simp] theorem c_append (w : WordAddr) (c : BitVec 2) : Addr.c (w ++ c) = c :=
  BitVec.extractLsb'_append_eq_right

@[simp] theorem halfByteAddr_half (a : Addr) (k : BitVec 1) : (halfByteAddr a k).extractLsb' 1 18 = a.extractLsb' 1 18 :=
  BitVec.extractLsb'_append_eq_left

@[simp] theorem halfByteAddr_low (a : Addr) (k : BitVec 1) : (halfByteAddr a k).extractLsb' 0 1 = k :=
  BitVec.extractLsb'_append_eq_right

@[simp] theorem wordAddr_op (e : Ea) : e.op.wordAddr = e.word := wordAddr_append e.word e.c

/-- Two bytes of one halfword are two bytes of one word. -/
theorem wordAddr_eq_of_half {a b : Addr} (h : a.extractLsb' 1 18 = b.extractLsb' 1 18) : a.wordAddr = b.wordAddr := by
  have hword : ∀ c : Addr, c.wordAddr = (c.extractLsb' 1 18).extractLsb' 1 17 := by
    intro _; unfold Addr.wordAddr; ext i hi; grind
  rw [hword a, hword b, h]

theorem append_ne_append (w : WordAddr) {c c' : BitVec 2} (h : c ≠ c') : (w ++ c : Addr) ≠ w ++ c' :=
  fun e => h (by simpa using congrArg Addr.c e)

theorem halfByteAddr_ne (a : Addr) : halfByteAddr a 0#1 ≠ halfByteAddr a 1#1 := fun e => by
  simpa using congrArg (BitVec.extractLsb' 0 1) e

/-- The module and the page of a word: its eight high-order address bits. -/
def pageBits (w : WordAddr) : BitVec 8 := w.extractLsb' 9 8

theorem moduleOf_eq (w : WordAddr) : moduleOf w = (pageBits w).extractLsb' 4 4 := by
  simp only [moduleOf, pageBits]; ext i hi; grind
theorem pageOf_eq (w : WordAddr) : pageOf w = (pageBits w).extractLsb' 0 4 := by
  simp only [pageOf, pageBits]; ext i hi; grind
@[simp] theorem pageBits_oddWord (w : WordAddr) : pageBits (oddWord w) = pageBits w := by
  simp only [pageBits, oddWord]; ext i hi; grind
@[simp] theorem pageBits_evenWord (w : WordAddr) : pageBits (evenWord w) = pageBits w := by
  simp only [pageBits, evenWord]; ext i hi; grind
@[simp] theorem pageBits_fileWord (w : WordAddr) (r n : Reg) : pageBits (fileWord w r n) = pageBits w := by
  simp only [pageBits, fileWord]; ext i hi; grind

theorem pageLocked_congr (s : State) {w w' : WordAddr} (h : pageBits w = pageBits w') :
    s.pageLocked w = s.pageLocked w' := by
  simp only [State.pageLocked, moduleOf_eq, pageOf_eq, h]

theorem present_congr (s : State) {w w' : WordAddr} (h : pageBits w = pageBits w') : s.present w = s.present w' := by
  simp only [State.present, moduleOf_eq, h]

@[simp] theorem pageLocked_oddWord (s : State) (w : WordAddr) : s.pageLocked (oddWord w) = s.pageLocked w :=
  pageLocked_congr s (pageBits_oddWord w)

@[simp] theorem pageLocked_evenWord (s : State) (w : WordAddr) : s.pageLocked (evenWord w) = s.pageLocked w :=
  pageLocked_congr s (pageBits_evenWord w)

@[simp] theorem pageLocked_fileWord (s : State) (w : WordAddr) (r n : Reg) :
    s.pageLocked (fileWord w r n) = s.pageLocked w :=
  pageLocked_congr s (pageBits_fileWord w r n)

@[simp] theorem present_oddWord (s : State) (w : WordAddr) : s.present (oddWord w) = s.present w :=
  present_congr s (pageBits_oddWord w)

@[simp] theorem present_evenWord (s : State) (w : WordAddr) : s.present (evenWord w) = s.present w :=
  present_congr s (pageBits_evenWord w)

/-! ## Read after write (20_memory.md R60, R61) -/

theorem memGet_put_addr (m : List Host.Cell) (a c : Addr) (b : Byte) (h : c ≠ a) :
    memGet (memPut m a.toNat b) c.toNat = memGet m c.toNat :=
  memGet_put_ne _ _ _ _ fun e => h (BitVec.eq_of_toNat_eq e)

theorem byteAt_setWord_ne (s : State) (w : WordAddr) (v : Word) (a : Addr) (h : a.wordAddr ≠ w) :
    (s.setWord w v).byteAt a = s.byteAt a := by
  have hne : ∀ c : BitVec 2, a ≠ w ++ c := by rintro c rfl; simp at h
  simp only [State.byteAt, State.setWord_mem, memPutWord, memGet_put_addr _ _ _ _ (hne _)]

theorem wordBytes_append (v : Word) :
    v.extractLsb' 24 8 ++ v.extractLsb' 16 8 ++ v.extractLsb' 8 8 ++ v.extractLsb' 0 8 = v := by
  ext i hi
  simp only [BitVec.getElem_append, BitVec.getElem_extractLsb']
  grind

@[simp] theorem wordAt_setWord_same (s : State) (w : WordAddr) (v : Word) : (s.setWord w v).wordAt w = v := by
  refine Eq.trans ?_ (wordBytes_append v)
  simp only [State.wordAt, State.byteAt, State.setWord_mem, memPutWord]
  simp only [memGet_put_addr, memGet_put_same, append_ne_append w, ne_eq, BitVec.reduceEq, not_false_eq_true]

theorem byteAt_setHalf_ne (s : State) (a c : Addr) (h : Half) (hne : c.extractLsb' 1 18 ≠ a.extractLsb' 1 18) :
    (s.setHalf a h).byteAt c = s.byteAt c := by
  have hc : ∀ k, c ≠ halfByteAddr a k := by rintro k rfl; simp at hne
  simp only [State.byteAt, State.setHalf, memGet_put_addr _ _ _ _ (hc _)]

@[simp] theorem halfAt_setHalf_same (s : State) (a : Addr) (h : Half) : (s.setHalf a h).halfAt a = h := by
  simp only [State.halfAt, State.byteAt, State.setHalf, memGet_put_addr _ _ _ _ (halfByteAddr_ne a), memGet_put_same]
  exact BitVec.extractLsb'_append_extractLsb'_eq_extractLsb' rfl |>.trans BitVec.extractLsb'_eq_self

@[simp] theorem parityBadAt_setWord (s : State) (w x : WordAddr) (v : Word) :
    (s.setWord w v).parityBadAt x = (s.parityBadAt x && x != w) := by
  rw [Bool.eq_iff_iff]
  simp [State.parityBadAt, cleanParity, BitVec.toNat_eq]

theorem stored_setByte (s : State) {e : Ea} (h : e.format = .byte) (b : Byte) :
    Stored s (s.setByte e.op b) e (.byte b) := by
  refine ⟨rfl, by simp [State.datum, h], fun a ha => byteAt_setByte_ne s e.op a b ?_, fun w => ?_⟩
  · simpa [covers, h] using ha
  · simp [coversWord, h, State.parityBadAt]

theorem stored_setHalf (s : State) {e : Ea} (h : e.format = .half) (v : Half) :
    Stored s (s.setHalf e.op v) e (.half v) := by
  refine ⟨rfl, by simp [State.datum, h], fun a ha => byteAt_setHalf_ne s e.op a v ?_, fun w => ?_⟩
  · simpa [covers, h] using ha
  · simp [coversWord, h, State.parityBadAt]

theorem stored_setWord (s : State) {e : Ea} (h : e.format = .word) (v : Word) :
    Stored s (s.setWord e.word v) e (.word v) := by
  refine ⟨rfl, by simp [State.datum, h], fun a ha => byteAt_setWord_ne s e.word v a ?_, fun w => ?_⟩
  · simpa [covers, h] using ha
  · simp [coversWord, h, bne]

@[simp] theorem format_wordEa (w : WordAddr) : (wordEa w).format = .word := rfl
@[simp] theorem word_wordEa (w : WordAddr) : (wordEa w).word = w := wordAddr_append w 0#2

theorem stored_writeWord (s : State) (w : WordAddr) (v : Word) :
    Stored s.tick (s.writeWord w v) (wordEa w) (.word v) := by
  simpa [State.writeWord] using stored_setWord s.tick (format_wordEa w) v

theorem written_write (s : State) {e : Ea} {d : Datum} (h : d.format = e.format) : Written s (s.write e d) e d := by
  cases d with
  | byte b => exact stored_setByte _ h.symm b
  | half v => exact stored_setHalf _ h.symm v
  | word v => exact stored_setWord _ h.symm v
  | double v => exact ⟨_, stored_writeWord s _ _, stored_writeWord _ _ _⟩

end Sys2Proof.Machine

/-!
The Unprivileged state (O60): what every part of an instruction can end in there, and what its traps leave.
-/

namespace Sys2Proof.Machine

/-! ## What a part of an instruction ends in -/

/-- Every way in which a part of an instruction ends: `P` holds of the answer, `Q` of the state that a trap or an endless
chain leaves. -/
def Ends {α : Type} (P : α → Prop) (Q : State → Prop) : Act α → Prop
  | .ok a => P a
  | .error (.trap _ u) => Q u
  | .error (.hang u) => Q u
  | .error (.fault _) => True

theorem Ends.bind {α β : Type} {P : α → Prop} {P' : β → Prop} {Q : State → Prop} {r : Act α} {f : α → Act β}
    (h : Ends P Q r) (k : ∀ a, P a → Ends P' Q (f a)) : Ends P' Q (r >>= f) := by
  match r, h with
  | .ok a, h => exact k a h
  | .error (.trap _ _), h => exact h
  | .error (.hang _), h => exact h
  | .error (.fault _), _ => trivial

theorem Ends.ite {α : Type} {P : α → Prop} {Q : State → Prop} {c : Prop} [Decidable c] {x y : Act α}
    (hx : c → Ends P Q x) (hy : ¬ c → Ends P Q y) : Ends P Q (if c then x else y) := by
  split
  · exact hx ‹c›
  · exact hy ‹¬ c›

theorem Ends.mono {α : Type} {P P' : α → Prop} {Q : State → Prop} {r : Act α} (h : Ends P Q r)
    (k : ∀ a, P a → P' a) : Ends P' Q r := by
  match r, h with
  | .ok a, h => exact k a h
  | .error (.trap _ _), h => exact h
  | .error (.hang _), h => exact h
  | .error (.fault _), _ => trivial

section Ends

variable {Q : State → Prop} (tick : ∀ u, Q u → Q u.tick) {s : State} (h : Q s)
include h

theorem checkPresent_ends (w : WordAddr) : Ends (fun _ => s.present w = true) Q (checkPresent s w) :=
  .ite (fun _ => h) fun hp => by simpa [Ends] using hp

theorem checkWrite_ends (w : WordAddr) : Ends (fun _ => WriteOpen s w) Q (checkWrite s w) :=
  .ite (fun _ => h) fun hp => .ite (fun _ => h) fun hr => .ite (fun _ => h) fun hl => by
    exact ⟨by simpa using hp, Bool.eq_false_iff.2 hr, Bool.eq_false_iff.2 hl⟩

include tick

theorem readCycle_ends (w : WordAddr) : Ends Q Q (readCycle s w) := .ite (fun _ => tick s h) fun _ => tick s h

theorem readWord_ends (w : WordAddr) : Ends (fun p => Q p.2) Q (readWord s w) :=
  (checkPresent_ends h w).bind fun _ _ => (readCycle_ends tick h w).bind fun _ h => h

theorem readByte_ends (a : Addr) : Ends (fun p => Q p.2) Q (readByte s a) :=
  (checkPresent_ends h _).bind fun _ _ => (readCycle_ends tick h _).bind fun _ h => h

theorem afterRead_of_tick (e : Ea) : Q (s.afterRead e) := by
  unfold State.afterRead
  cases e.format
  case double => exact tick _ (tick _ h)
  all_goals exact tick _ h

theorem fetch_ends (e : Ea) : Ends (fun p => Q p.2) Q (fetch s e) :=
  (checkPresent_ends h _).bind fun _ _ =>
    .ite (fun _ => afterRead_of_tick tick h e) fun _ => afterRead_of_tick tick h e

theorem fetchForUpdate_ends (e : Ea) : Ends (fun p => WriteOpen s e.word ∧ Q p.2) Q (fetchForUpdate s e) :=
  (checkWrite_ends h _).bind fun _ hw => (fetch_ends tick h e).mono fun _ h => ⟨hw, h⟩

omit h in
theorem chase_ends (fuel : Nat) (f : Bool) (c : BitVec 2) (a : Addr) {s : State} (h : Q s) :
    Ends (fun p => Q p.2) Q (chase fuel f c a s) := by
  induction fuel generalizing f c a s with
  | zero => exact h
  | succ n ih => exact (readWord_ends tick h _).bind fun _ h => .ite (fun _ => ih _ _ _ h) fun _ => h

theorem effAddr_ends (m : MemRef) : Ends (fun p => Q p.2) Q (effAddr s m) :=
  .ite (fun _ => chase_ends tick _ _ _ _ h) fun _ => h

end Ends

/-! ## What an instruction changes inside the CP -/

/-- `t` is `s` but for what computing a result can change: general registers, the PSWR without bit 0, interrupt requests
and the count of free values. -/
def CpuOnly (s t : State) : Prop :=
  t = { s with regs := t.regs, psw := { t.psw with priv := s.psw.priv }, request := t.request, draws := t.draws }

theorem CpuOnly.trans {s t u : State} (h : CpuOnly s t) (k : CpuOnly t u) : CpuOnly s u := by
  unfold CpuOnly at *
  rw [k, h]

theorem CpuOnly.drawn {s t : State} (h : CpuOnly s t) : CpuOnly s t.drawn := h.trans rfl

theorem requestArithmetic_cpuOnly (s : State) (x : Bool) : CpuOnly s (s.requestArithmetic x) := by cases x <;> rfl

theorem finishArithmetic_cpuOnly (s : State) (c : CC) : CpuOnly s (s.finishArithmetic c) :=
  .trans (t := s.setCC c) rfl (requestArithmetic_cpuOnly _ _)

theorem deliver_cpuOnly (s : State) (r : Reg) (cc1 : Bool) (v : Wide) : CpuOnly s (s.deliver r cc1 v) := by
  cases v with
  | one w => exact .trans (t := s.setReg r w) rfl (finishArithmetic_cpuOnly _ _)
  | two d => exact .trans (t := s.setPair r d) rfl (finishArithmetic_cpuOnly _ _)

theorem deliverNegative_cpuOnly (s : State) (r : Reg) (v : Wide) : CpuOnly s (s.deliverNegative r v) := by
  cases v <;> simp only [State.deliverNegative, deliver_cpuOnly]

theorem addTo_cpuOnly (s : State) (r : Reg) (v : Wide) : CpuOnly s (s.addTo r v) := by
  cases v <;> simp only [State.addTo, deliver_cpuOnly]

theorem subtractFrom_cpuOnly (s : State) (r : Reg) (v : Wide) : CpuOnly s (s.subtractFrom r v) := by
  cases v <;> simp only [State.subtractFrom, deliver_cpuOnly]

theorem compareWith_cpuOnly (s : State) (r : Reg) (v : Wide) : CpuOnly s (s.compareWith r v) := by
  cases v <;> rfl

theorem compareMasked_cpuOnly (s : State) (r : Reg) (v : Wide) : CpuOnly s (s.compareMasked r v) := by
  cases v <;> rfl

theorem andInto_cpuOnly (s : State) (r : Reg) (d : Datum) : CpuOnly s (s.andInto r d) := by
  cases d with
  | byte | half => rfl
  | word | double => simp only [State.andInto, deliver_cpuOnly]

theorem orInto_cpuOnly (s : State) (r : Reg) (v : Wide) : CpuOnly s (s.orInto r v) := by
  cases v <;> simp only [State.orInto, deliver_cpuOnly]

theorem xorInto_cpuOnly (s : State) (r : Reg) (v : Wide) : CpuOnly s (s.xorInto r v) := by
  cases v <;> simp only [State.xorInto, deliver_cpuOnly]

theorem divide_cpuOnly (s : State) (r : Reg) (v : Word) : CpuOnly s (s.divide r v) := by
  unfold State.divide
  dsimp only
  split
  · rfl
  · exact (CpuOnly.trans (t := s.setPair r (Config.dividePair s.draws)) rfl (finishArithmetic_cpuOnly _ _)).drawn

theorem nextSign_cpuOnly (s : State) (r : Reg) : CpuOnly s (s.nextSign r).2 := by
  unfold State.nextSign
  split <;> rfl

theorem deliverFloatWord_cpuOnly (s : State) (r : Reg) (x : FloatResult 32) : CpuOnly s (s.deliverFloatWord r x) := by
  cases x with
  | exact v => exact deliver_cpuOnly s r false (.one v)
  | exception => exact (deliver_cpuOnly s r true (.one _)).drawn
  | anyValue => exact (deliver_cpuOnly s r _ (.one _)).drawn

theorem deliverFloatDouble_cpuOnly (s : State) (r : Reg) (x : FloatResult 64) :
    CpuOnly s (s.deliverFloatDouble r x) := by
  cases x with
  | exact v => exact deliver_cpuOnly s r false (.two v)
  | exception => exact (deliver_cpuOnly s r true (.two _)).drawn
  | anyValue => exact (deliver_cpuOnly s r _ (.two _)).drawn

/-- A branch replaces PSWR bits 1 to 12 at most and the program count: bit 0 stays (45 R314). -/
theorem jump_cpuOnly (s : State) (e : Ea) : CpuOnly s (s.jump e) := by
  unfold State.jump
  cases e.last <;> rfl

/-! ## What the bus did -/

/-- `u` is `s` after what the bus did, and `s` itself where nothing is listed for the bus. -/
def Bussed (s u : State) : Prop := BusOnly s u ∧ (s.within = [] → u = s)

theorem Bussed.refl (s : State) : Bussed s s := ⟨.refl s, fun _ => rfl⟩

theorem Bussed.trans {s t u : State} (h : Bussed s t) (k : Bussed t u) : Bussed s u :=
  ⟨h.1.trans k.1, fun hw => by obtain rfl := h.2 hw; exact k.2 hw⟩

theorem tick_bussed (s : State) : Bussed s s.tick := ⟨tick_bus s, tick_quiet s⟩

theorem Bussed.tick {s u : State} (h : Bussed s u) : Bussed s u.tick := h.trans (tick_bussed u)

theorem afterRead_bussed (s : State) (e : Ea) : Bussed s (s.afterRead e) :=
  afterRead_of_tick (fun _ h => h.tick) (.refl s) e

theorem effAddr_bussed {s u : State} {m : MemRef} {e : Ea} (h : effAddr s m = .ok (e, u)) : Bussed s u := by
  have k := effAddr_ends (Q := Bussed s) (fun _ h => h.tick) (.refl s) m
  rw [h] at k
  exact k

theorem effAddr_trap_bussed {s u : State} {m : MemRef} {t : Trap} (h : effAddr s m = .error (.trap t u)) :
    Bussed s u := by
  have k := effAddr_ends (Q := Bussed s) (fun _ h => h.tick) (.refl s) m
  rw [h] at k
  exact k

section Bussed

variable {s u : State} (h : Bussed s u)
include h

theorem Bussed.regs : u.regs = s.regs := by rw [h.1]
theorem Bussed.psw : u.psw = s.psw := by rw [h.1]
theorem Bussed.cfg : u.cfg = s.cfg := by rw [h.1]
theorem Bussed.reg (r : Reg) : u.reg r = s.reg r := by rw [h.1]; rfl
theorem Bussed.pair (r : Reg) : u.pair r = s.pair r := by rw [h.1]; rfl
theorem Bussed.present (w : WordAddr) : u.present w = s.present w := by rw [h.1]; rfl

theorem Bussed.setReg (r : Reg) (v : Word) : Bussed (s.setReg r v) (u.setReg r v) :=
  ⟨by rw [h.1]; rfl, fun hw => by rw [h.2 hw]⟩

theorem Bussed.setPair (r : Reg) (v : DWord) : Bussed (s.setPair r v) (u.setPair r v) :=
  ⟨by rw [h.1]; rfl, fun hw => by rw [h.2 hw]⟩

theorem Bussed.setCC (c : CC) : Bussed (s.setCC c) (u.setCC c) :=
  ⟨by rw [h.1]; rfl, fun hw => by rw [h.2 hw]⟩

theorem Bussed.setPc (pc : BitVec 18) : Bussed (s.setPc pc) (u.setPc pc) :=
  ⟨by rw [h.1]; rfl, fun hw => by rw [h.2 hw]⟩

end Bussed

/-! ## What an instruction can leave in the Unprivileged state -/

/-- The state that a trap finds: the one before the instruction but for general registers and condition code (60 R433,
40 R180), and for what the bus did. -/
def Discards (s u : State) : Prop :=
  ∃ (regs : Vector Word 8) (c : CC), Bussed { s with regs := regs, psw := { s.psw with cc := c } } u

theorem Discards.refl (s : State) : Discards s s := ⟨s.regs, s.psw.cc, .refl s⟩

theorem Discards.tick {s u : State} (h : Discards s u) : Discards s u.tick := by
  obtain ⟨regs, c, h⟩ := h
  exact ⟨regs, c, h.tick⟩

theorem Discards.setReg {s u : State} (h : Discards s u) (r : Reg) (v : Word) : Discards s (u.setReg r v) := by
  obtain ⟨regs, c, h⟩ := h
  exact ⟨_, c, h.setReg r v⟩

/-- A load that requests nothing changes registers and condition code alone. -/
theorem Discards.deliver {s u : State} (h : Discards s u) (r : Reg) (v : Wide) : Discards s (u.deliver r false v) := by
  obtain ⟨regs, c, h⟩ := h
  cases v with
  | one w => exact ⟨_, _, (h.setReg r w).setCC (scc false w)⟩
  | two d => exact ⟨_, _, (h.setPair r d).setCC (scc false d)⟩

/-- The program count is put back to the instruction (60 R432). -/
theorem Discards.setPc {s u : State} {len : BitVec 18} (h : Discards (s.advance len) u) :
    Discards s (u.setPc s.psw.pc) := by
  obtain ⟨regs, c, h⟩ := h
  exact ⟨regs, c, h.setPc s.psw.pc⟩

/-- What neither an instruction without privilege nor the trap that it raises changes. -/
def Held (s t : State) : Prop :=
  t.protect = s.protect ∧ t.enabled = s.enabled ∧ t.semi = s.semi ∧ t.keyswitch = s.keyswitch ∧
    t.keyswitchPending = s.keyswitchPending ∧ t.keylock = s.keylock ∧ t.cfg = s.cfg ∧
    (t.run = .halt → s.run = .halt) ∧ (t.run = .off → s.run = .off) ∧ (s.within = [] → t.channels = s.channels)

/-- `t` has the privilege of `s`, its active levels and, with nothing on the bus, its protected pages. -/
def Kept (s t : State) : Prop :=
  Held s t ∧ t.psw.priv = s.psw.priv ∧ t.active = s.active ∧
    (s.within = [] → t.within = [] ∧ ∀ a : Addr, s.pageLocked a.wordAddr = true → t.byteAt a = s.byteAt a)

theorem Held.trans {s t u : State} (h : Held s t) (hw : s.within = [] → t.within = []) (k : Held t u) : Held s u := by
  obtain ⟨h1, h2, h3, h4, h5, h6, h7, h8, h9, h10⟩ := h
  obtain ⟨k1, k2, k3, k4, k5, k6, k7, k8, k9, k10⟩ := k
  exact ⟨k1.trans h1, k2.trans h2, k3.trans h3, k4.trans h4, k5.trans h5, k6.trans h6, k7.trans h7, h8 ∘ k8, h9 ∘ k9,
    fun hs => (k10 (hw hs)).trans (h10 hs)⟩

theorem Kept.refl (s : State) : Kept s s :=
  ⟨⟨rfl, rfl, rfl, rfl, rfl, rfl, rfl, id, id, fun _ => rfl⟩, rfl, rfl, fun hw => ⟨hw, fun _ _ => rfl⟩⟩

theorem Kept.bussed {s u v : State} (h : Kept s u) (k : Bussed u v) : Kept s v := by
  obtain ⟨⟨h1, h2, h3, h4, h5, h6, h7, h8, h9, h10⟩, hp, ha, hq⟩ := h
  have hquiet : s.within = [] → v = u := fun hw => k.2 (hq hw).1
  refine ⟨⟨?_, ?_, ?_, ?_, ?_, ?_, ?_, ?_, ?_, fun hw => ?_⟩, ?_, ?_, fun hw => ?_⟩
  any_goals rw [k.1]; assumption
  · rw [hquiet hw]; exact h10 hw
  · rw [hquiet hw]; exact hq hw

theorem Discards.kept {s u : State} (h : Discards s u) : Kept s u := by
  obtain ⟨regs, c, h⟩ := h
  exact Kept.bussed (u := { s with regs := regs, psw := { s.psw with cc := c } }) (.refl s) h

theorem Kept.cpu {s u t : State} (h : Kept s u) (k : CpuOnly u t) : Kept s t := by
  rw [k]; exact h

/-! ## Stores and protected pages (20_memory.md R75) -/

/-- What a store outside the protected pages leaves. -/
theorem Kept.setMem {s u t : State} (h : Kept s u) {w : WordAddr} (hw : s.pageLocked w = false)
    (ht : t = { u with mem := t.mem, parityBad := t.parityBad })
    (hb : ∀ a : Addr, a.wordAddr ≠ w → t.byteAt a = u.byteAt a) : Kept s t := by
  have hbytes : ∀ a : Addr, s.pageLocked a.wordAddr = true → t.byteAt a = u.byteAt a := fun a ha =>
    hb a (by rintro rfl; rw [hw] at ha; cases ha)
  obtain ⟨hheld, hp, ha, hq⟩ := h
  refine ⟨by rw [ht]; exact hheld, by rw [ht]; exact hp, by rw [ht]; exact ha,
    fun hn => ⟨by rw [ht]; exact (hq hn).1, fun a hl => ?_⟩⟩
  rw [hbytes a hl]
  exact (hq hn).2 a hl

theorem Kept.writeWord {s u : State} (h : Kept s u) {w : WordAddr} (hw : s.pageLocked w = false) (v : Word) :
    Kept s (u.writeWord w v) :=
  (h.bussed (tick_bussed u)).setMem hw rfl fun a ha => byteAt_setWord_ne _ _ _ a ha

theorem Kept.writeByte {s u : State} (h : Kept s u) {a : Addr} (hw : s.pageLocked a.wordAddr = false) (b : Byte) :
    Kept s (u.writeByte a b) :=
  (h.bussed (tick_bussed u)).setMem hw rfl fun c hc => byteAt_setByte_ne _ _ _ _ (by rintro rfl; exact hc rfl)

theorem Kept.writeHalf {s u : State} (h : Kept s u) {a : Addr} (hw : s.pageLocked a.wordAddr = false) (v : Half) :
    Kept s (u.writeHalf a v) :=
  (h.bussed (tick_bussed u)).setMem hw rfl fun _ hc => byteAt_setHalf_ne _ _ _ _ fun e => hc (wordAddr_eq_of_half e)

theorem Kept.write {s u : State} (h : Kept s u) {e : Ea} (hw : s.pageLocked e.word = false) (d : Datum) :
    Kept s (u.write e d) := by
  cases d with
  | byte b => exact h.writeByte (by simpa using hw) b
  | half v => exact h.writeHalf (by simpa using hw) v
  | word v => exact h.writeWord hw v
  | double v => exact (h.writeWord (by simpa using hw) _).writeWord (by simpa using hw) _

theorem Kept.storeFile {s : State} {w : WordAddr} (hw : s.pageLocked w = false) (r : Reg) (ns : List Reg) {u : State}
    (h : Kept s u) : Kept s (storeFile w r ns u) := by
  induction ns generalizing u with
  | nil => exact h
  | cons n ns ih => exact ih (h.writeWord (by simpa using hw) _)

theorem Kept.addToMemory {s u : State} (h : Kept s u) {e : Ea} (hw : s.pageLocked e.word = false) (r : Reg)
    (d : Datum) : Kept s (u.addToMemory r e d) := by
  cases d with
  | byte | half => exact (h.write hw _).cpu rfl
  | word | double => exact (h.write hw _).cpu (finishArithmetic_cpuOnly _ _)

/-- Where an instruction of the Unprivileged state may write, the page is not protected. -/
theorem Kept.unlocked {s u : State} (h : Kept s u) (hs : s.unprivileged = true) {w : WordAddr} (hw : WriteOpen u w) :
    s.pageLocked w = false := by
  obtain ⟨⟨hprotect, -, hsemi, -, -, -, hcfg, -⟩, hpriv, -⟩ := h
  obtain ⟨-, -, hlock⟩ := hw
  simp only [State.unprivileged, Bool.and_eq_true, Bool.not_eq_true'] at hs
  have hnot : u.notPrivileged = true := by simp [State.notPrivileged, hcfg, hpriv, hs]
  have hsame : u.pageLocked w = s.pageLocked w := by
    simp only [State.pageLocked, State.pageProtected, State.kindOf, State.protectReg, hcfg, hprotect]
  rwa [hnot, Bool.true_and, hsame] at hlock

/-! ## Every instruction in the Unprivileged state -/

/-- However an instruction that began in `s` ends: completed it has kept what it must keep, stopped it has left what a trap
finds. -/
def Confined (s : State) (r : Act State) : Prop := Ends (Kept s) (Discards s) r

section Shapes

variable {s u : State} (h : Discards s u)
include h

/-! ### The shapes of instructions -/

theorem result_confined {t : State} (k : CpuOnly u t) : Confined s (.ok t) := h.kept.cpu k

theorem address_ends (m : MemRef) : Ends (fun p => Discards s p.2) (Discards s) (effAddr u m) :=
  effAddr_ends (fun _ h => h.tick) h m

theorem withOperand_confined (m : MemRef) {f : State → Datum → State} (hf : ∀ v d, CpuOnly v (f v d)) :
    Confined s (withOperand m (fun v d => .ok (f v d)) u) :=
  (address_ends h m).bind fun p h => (fetch_ends (fun _ h => h.tick) h p.1).bind fun q h =>
    result_confined h (hf q.2 q.1)

theorem loadMaskedOp_confined (r : Reg) (m : MemRef) : Confined s (loadMaskedOp r m u) :=
  withOperand_confined h m fun _ _ => deliver_cpuOnly ..

theorem loadNegativeOp_confined (r : Reg) (m : MemRef) : Confined s (loadNegativeOp r m u) :=
  withOperand_confined h m fun _ _ => deliverNegative_cpuOnly ..

theorem addMemoryOp_confined (r : Reg) (m : MemRef) : Confined s (addMemoryOp r m u) :=
  withOperand_confined h m fun _ _ => addTo_cpuOnly ..

theorem subtractMemoryOp_confined (r : Reg) (m : MemRef) : Confined s (subtractMemoryOp r m u) :=
  withOperand_confined h m fun _ _ => subtractFrom_cpuOnly ..

theorem andMemoryOp_confined (r : Reg) (m : MemRef) : Confined s (andMemoryOp r m u) :=
  withOperand_confined h m fun _ _ => andInto_cpuOnly ..

theorem orMemoryOp_confined (r : Reg) (m : MemRef) : Confined s (orMemoryOp r m u) :=
  withOperand_confined h m fun _ _ => orInto_cpuOnly ..

theorem xorMemoryOp_confined (r : Reg) (m : MemRef) : Confined s (xorMemoryOp r m u) :=
  withOperand_confined h m fun _ _ => xorInto_cpuOnly ..

theorem compareMemoryOp_confined (r : Reg) (m : MemRef) : Confined s (compareMemoryOp r m u) :=
  withOperand_confined h m fun _ _ => compareWith_cpuOnly ..

theorem compareMaskedMemoryOp_confined (r : Reg) (m : MemRef) : Confined s (compareMaskedMemoryOp r m u) :=
  withOperand_confined h m fun _ _ => compareMasked_cpuOnly ..

theorem loadOp_confined (r : Reg) (m : MemRef) : Confined s (loadOp r m u) :=
  (address_ends h m).bind fun p h => (checkPresent_ends h _).bind fun _ _ =>
    have hload := (afterRead_of_tick (fun _ h => h.tick) h p.1).deliver r (p.2.seen p.1).extend
    .ite (fun _ => hload) fun _ => hload.kept

theorem withWordOperand_confined (m : MemRef) {f : State → Word → State} (hf : ∀ v w, CpuOnly v (f v w)) :
    Confined s (withWordOperand m f u) := by
  refine (address_ends h m).bind fun p h => .ite (fun _ => trivial) fun _ =>
    (fetch_ends (fun _ h => h.tick) h p.1).bind fun q h => ?_
  dsimp only
  cases q.1.extend with
  | one w => exact result_confined h (hf q.2 w)
  | two d => trivial

theorem multiplyMemoryOp_confined (r : Reg) (m : MemRef) : Confined s (multiplyMemoryOp r m u) :=
  withWordOperand_confined h m fun _ _ => deliver_cpuOnly ..

theorem divideMemoryOp_confined (r : Reg) (m : MemRef) : Confined s (divideMemoryOp r m u) :=
  withWordOperand_confined h m fun _ _ => divide_cpuOnly ..

theorem floatOp_confined (f : {n : Nat} → BitVec n → BitVec n → FloatResult n) (r : Reg) (m : MemRef) :
    Confined s (floatOp f r m u) :=
  .ite (fun _ => h) fun _ => (address_ends h m).bind fun _ h =>
    .ite (fun _ => (readWord_ends (fun _ h => h.tick) h _).bind fun _ h =>
      result_confined h (deliverFloatWord_cpuOnly ..)) fun _ =>
    .ite (fun _ => (readWord_ends (fun _ h => h.tick) h _).bind fun _ h =>
      (readWord_ends (fun _ h => h.tick) h _).bind fun _ h => result_confined h (deliverFloatDouble_cpuOnly ..))
    fun _ => trivial

theorem branchIf_confined (c : Bool) (m : MemRef) : Confined s (branchIf c m u) :=
  .ite (fun _ => (address_ends h m).bind fun _ h => result_confined h (jump_cpuOnly ..)) fun _ => h.kept

theorem branchIncrement_confined (k : Word) (r : Reg) (m : MemRef) : Confined s (branchIncrement k r m u) :=
  .ite (fun _ => result_confined h rfl) fun _ => (address_ends h _).bind fun _ h => result_confined h rfl

theorem opLea_confined (r : Reg) (m : MemRef) : Confined s (opLea r m u) :=
  (address_ends h m).bind fun _ h => result_confined h rfl

theorem opBl_confined (m : MemRef) : Confined s (opBl m u) :=
  (address_ends h m).bind fun p h =>
    result_confined h (.trans (t := p.2.setReg 0#3 p.2.psw.word) rfl (jump_cpuOnly ..))

theorem opTbm_confined (n : BitVec 3) (m : MemRef) : Confined s (opTbm n m u) :=
  (address_ends h m).bind fun _ h => (readByte_ends (fun _ h => h.tick) h _).bind fun _ h => result_confined h rfl

omit h in
theorem loadFile_confined (w : WordAddr) (r : Reg) (ns : List Reg) {u : State} (h : Discards s u) :
    Confined s (loadFile w r ns u) := by
  induction ns generalizing u with
  | nil => exact h.kept
  | cons n ns ih => exact (readCycle_ends (fun _ h => h.tick) h _).bind fun _ h => ih (h.setReg n _)

theorem opLf_confined (r : Reg) (m : MemRef) : Confined s (opLf r m u) :=
  (address_ends h m).bind fun _ h => (checkPresent_ends h _).bind fun _ _ => loadFile_confined _ r _ h

theorem opTpr_confined (k : BitVec 4) (r : Reg) : Confined s (opTpr k r u) :=
  .ite (fun _ => h) fun _ => .ite (fun _ => h) fun _ => result_confined h rfl

/-- WAIT leaves RUN, for WAIT and not for HALT (48 R394). -/
theorem opWait_confined : Confined s (opWait u) := by
  obtain ⟨⟨h1, h2, h3, h4, h5, h6, h7, -, -, h10⟩, hrest⟩ := h.kept
  exact ⟨⟨h1, h2, h3, h4, h5, h6, h7, nofun, nofun, h10⟩, hrest⟩

theorem opRnd_confined (r : Reg) : Confined s (opRnd r u) := by
  have hk := nextSign_cpuOnly u r
  refine result_confined h ?_
  split
  · exact hk.trans (deliver_cpuOnly ..)
  · exact hk.trans (deliver_cpuOnly ..)

/-! ### Stores and privileged instructions -/

variable (hs : s.unprivileged = true)
include hs

theorem storing_confined (m : MemRef) (f : Format → Datum) : Confined s (storing m f u) :=
  (address_ends h m).bind fun _ h => (checkWrite_ends h _).bind fun _ hw =>
    h.kept.write (h.kept.unlocked hs hw) _

theorem opStf_confined (r : Reg) (m : MemRef) : Confined s (opStf r m u) :=
  (address_ends h m).bind fun _ h => (checkWrite_ends h _).bind fun _ hw =>
    Kept.storeFile (h.kept.unlocked hs hw) r _ h.kept

theorem addRegisterToMemoryOp_confined (r : Reg) (m : MemRef) : Confined s (addRegisterToMemoryOp r m u) :=
  (address_ends h m).bind fun _ h => (fetchForUpdate_ends (fun _ h => h.tick) h _).bind fun _ ⟨hw, h'⟩ =>
    h'.kept.addToMemory (h.kept.unlocked hs hw) r _

theorem changeBit_confined (m : MemRef) (n : BitVec 3) (f : Byte → Byte) : Confined s (changeBit m n f u) :=
  (address_ends h m).bind fun p h => (checkWrite_ends h _).bind fun _ hw =>
    have hl : s.pageLocked (bitByte p.1).wordAddr = false := (wordAddr_op p.1).symm ▸ h.kept.unlocked hs hw
    (readByte_ends (fun _ h => h.tick) h _).bind fun _ h => (h.kept.writeByte hl _).cpu rfl

theorem opAbm_confined (n : BitVec 3) (m : MemRef) : Confined s (opAbm n m u) :=
  (address_ends h m).bind fun _ h => (checkWrite_ends h _).bind fun _ hw =>
    have hl := h.kept.unlocked hs hw
    (readWord_ends (fun _ h => h.tick) h _).bind fun _ h =>
      (h.kept.writeWord hl _).cpu (finishArithmetic_cpuOnly _ _)

/-- A privileged instruction does nothing but trap. -/
theorem privileged_confined (f : Unit → Act State) : Confined s (privilegedOnly u >>= f) := by
  obtain ⟨⟨-, -, hsemi, -, -, -, hcfg, -⟩, hpriv, -⟩ := h.kept
  have hu : u.unprivileged = true := by rw [State.unprivileged, hcfg, hpriv, hsemi]; exact hs
  rw [privilegedOnly, if_pos hu]
  exact h

theorem opTrp_confined (k : BitVec 4) (r : Reg) : Confined s (opTrp k r u) := by
  obtain ⟨⟨-, -, -, -, -, -, hcfg, -⟩, hpriv, -⟩ := h.kept
  simp only [State.unprivileged, Bool.and_eq_true] at hs
  have hu : u.notPrivileged = true := by rw [State.notPrivileged, hcfg, hpriv, Bool.and_eq_true]; exact hs.1
  refine .ite (fun _ => h) fun _ => ?_
  rw [if_pos hu]
  exact h

/-! ### Every instruction -/

/-- As a subject an instruction is confined too. -/
theorem subjectOp_confined (i : Instr) : Confined s (subjectOp i u) := by
  cases i with
  | lb r m | lh r m | lw r m | ld r m => exact loadOp_confined h r m
  | lmb r m | lmh r m | lmw r m | lmd r m => exact loadMaskedOp_confined h r m
  | lnb r m | lnh r m | lnw r m | lnd r m => exact loadNegativeOp_confined h r m
  | lea r m => exact opLea_confined h r m
  | lf r m => exact opLf_confined h r m
  | stb r m | sth r m | stw r m | std r m => exact storing_confined h hs m (u.storeDatum r)
  | stmb r m | stmh r m | stmw r m | stmd r m => exact storing_confined h hs m fun k => (u.storeDatum r k).masked u.mask
  | zmb m | zmh m | zmw m | zmd m => exact storing_confined h hs m Format.zero
  | stf r m => exact opStf_confined h hs r m
  | admb r m | admh r m | admw r m | admd r m => exact addMemoryOp_confined h r m
  | sumb r m | sumh r m | sumw r m | sumd r m => exact subtractMemoryOp_confined h r m
  | armb r m | armh r m | armw r m | armd r m => exact addRegisterToMemoryOp_confined h hs r m
  | mpmb r m | mpmh r m | mpmw r m => exact multiplyMemoryOp_confined h r m
  | dvmb r m | dvmh r m | dvmw r m => exact divideMemoryOp_confined h r m
  | adfw r m | adfd r m | sufw r m | sufd r m | mpfw r m | mpfd r m | dvfw r m | dvfd r m =>
    exact floatOp_confined h _ r m
  | anmb r m | anmh r m | anmw r m | anmd r m => exact andMemoryOp_confined h r m
  | ormb r m | ormh r m | ormw r m | ormd r m => exact orMemoryOp_confined h r m
  | eomb r m | eomh r m | eomw r m | eomd r m => exact xorMemoryOp_confined h r m
  | camb r m | camh r m | camw r m | camd r m => exact compareMemoryOp_confined h r m
  | cmmb r m | cmmh r m | cmmw r m | cmmd r m => exact compareMaskedMemoryOp_confined h r m
  | li | lcs | adrm | surm | anr | orr | orrm | eor | eorm | trr | trrm | trn | trnm | trc | trcm =>
    exact result_confined h (deliver_cpuOnly ..)
  | adr | adi | abr => exact result_confined h (addTo_cpuOnly ..)
  | sur | sui => exact result_confined h (subtractFrom_cpuOnly ..)
  | mpr d src => exact result_confined h (deliver_cpuOnly u d false _)
  | mpi r imm => exact result_confined h (deliver_cpuOnly u r false _)
  | dvr | dvi => exact result_confined h (divide_cpuOnly ..)
  | car | ci => exact result_confined h (compareWith_cpuOnly ..)
  | cmr => exact result_confined h (compareMasked_cpuOnly ..)
  | es r => exact result_confined h ((nextSign_cpuOnly u r).trans (deliver_cpuOnly ..))
  | rnd r => exact opRnd_confined h r
  | sla r n => exact result_confined h (.trans (t := u.setReg r _) rfl (finishArithmetic_cpuOnly ..))
  | slad r n => exact result_confined h (.trans (t := u.setPair r _) rfl (finishArithmetic_cpuOnly ..))
  | zr | xcr | xcrm | sbr | zbr | tbr | nor | nord | scz | sll | slc | slld | sra | srl | src | srad | srld | trsw | nop
    | calm => exact result_confined h rfl
  | sbm n m => exact changeBit_confined h hs m n (fun b => b ||| bitOfByte n)
  | zbm n m => exact changeBit_confined h hs m n (fun b => b &&& ~~~(bitOfByte n))
  | abm n m => exact opAbm_confined h hs n m
  | tbm n m => exact opTbm_confined h n m
  | bu m => exact branchIf_confined h true m
  | bct d m => exact branchIf_confined h (conditionTrue u.psw.cc d) m
  | bcf d m => exact branchIf_confined h (!conditionTrue u.psw.cc d) m
  | bft m => exact branchIf_confined h (functionTrue u.mask u.psw.cc) m
  | bl m => exact opBl_confined h m
  | bib r m | bih r m | biw r m | bid r m => exact branchIncrement_confined h _ r m
  | trp k r => exact opTrp_confined h hs k r
  | tpr k r => exact opTpr_confined h k r
  | wait => exact opWait_confined h
  | exr | exrr | exm => exact h
  | bri | halt | ei | di | ri | ai | dai | cd | td => exact privileged_confined h hs _

theorem executeSubject_confined (bytes : List Byte) : Confined s (executeSubject bytes u) := by
  unfold executeSubject
  split
  · exact subjectOp_confined h hs _
  · exact h

theorem opExm_confined (m : MemRef) : Confined s (opExm m u) :=
  (address_ends h m).bind fun _ h => (readWord_ends (fun _ h => h.tick) h _).bind fun _ h =>
    .ite (fun _ => executeSubject_confined h hs _) fun _ => executeSubject_confined h hs _

theorem operation_confined (i : Instr) : Confined s (operation i u) := by
  unfold operation
  split
  · exact executeSubject_confined h hs _
  · exact executeSubject_confined h hs _
  · exact opExm_confined h hs _
  · exact subjectOp_confined h hs _

end Shapes

/-! ## Exceptions in the Unprivileged state -/

/-- What an entry leaves is what 60 R447 lists. -/
theorem entered_of_enter {s t : State} {n : Level} {trapForm : Bool} (h : enter s n trapForm = .ok t) :
    Entered s t n trapForm := by
  obtain ⟨-, rfl⟩ := enter_ok s t n trapForm h
  refine ⟨wordAt_setWord_same _ _ _, fun a ha => byteAt_setWord_ne _ _ _ a ha,
    fun w => parityBadAt_setWord s.tick.tick _ w s.psw.word, fun m => (hasLevel_setLevel ..).trans ?_,
    fun m => (hasLevel_setLevel ..).trans ?_, rfl⟩
  · by_cases hm : m = n <;> simp [hm, State.writeWord]
  · by_cases hm : m = n <;> simp [hm]

/-- The levels that an instruction enters in their trap form: 00H and 01H for an endless chain (70 R504), and those of the
traps (60 R431). -/
def trapFormLevels : List Level := [0x00#7, 0x01#7, 0x12#7, 0x24#7, 0x25#7, 0x26#7]

theorem trap_level_mem (t : Trap) : t.level ∈ trapFormLevels := by cases t <;> decide

/-- What the next state of an instruction of the Unprivileged state can be: one that has kept privilege, active levels and
protected pages, or an entry. -/
def KeptOrEntered (s t : State) : Prop :=
  Held s t ∧ (Kept s t ∨ ∃ (u : State) (n : Level), n ∈ trapFormLevels ∧ Discards s u ∧ Entered u t n true)

theorem Kept.keptOrEntered {s t : State} (h : Kept s t) : KeptOrEntered s t := ⟨h.1, .inl h⟩

theorem Entered.held {s t : State} {n : Level} {trapForm : Bool} (h : Entered s t n trapForm) : Held s t := by
  obtain ⟨-, -, -, -, -, ht⟩ := h
  obtain ⟨⟨h1, h2, h3, h4, h5, h6, h7, -, -, h10⟩, -⟩ := (Kept.refl s).bussed (tick_bussed s).tick
  rw [ht]
  exact ⟨h1, h2, h3, h4, h5, h6, h7, nofun, nofun, h10⟩

section Exceptions

variable {s u : State} (h : Discards s u)
include h

theorem entered_keptOrEntered {n : Level} (hn : n ∈ trapFormLevels) {t : State}
    (ht : entered (enter u n true) = .next t) : KeptOrEntered s t := by
  cases he : enter u n true with
  | error f => rw [he] at ht; cases ht
  | ok v =>
    rw [he] at ht
    cases ht
    have hentered := entered_of_enter he
    exact ⟨h.kept.1.trans (fun hw => (h.kept.2.2.2 hw).1) hentered.held, .inr ⟨u, n, hn, h, hentered⟩⟩

theorem raise_keptOrEntered (x : Trap) (len : BitVec 18) {t : State} (ht : raise x len u = .next t) :
    KeptOrEntered s t := by
  unfold raise at ht
  split at ht
  · exact entered_keptOrEntered h (trap_level_mem x) ht
  · cases ht
    exact Kept.keptOrEntered h.kept

theorem endlessChain_keptOrEntered {t : State} (ht : endlessChain u = .next t) : KeptOrEntered s t := by
  unfold endlessChain at ht
  split at ht
  · exact entered_keptOrEntered h (by decide) ht
  · split at ht
    · exact entered_keptOrEntered h (by decide) ht
    · cases ht
      exact Kept.keptOrEntered h.kept

omit h in
theorem exec_keptOrEntered {t : State} {i : Instr} (hs : s.unprivileged = true) (ht : exec i s = .next t) :
    KeptOrEntered s t := by
  obtain ⟨len, he⟩ := exec_eq_complete i s
  have hconfined := operation_confined (.refl (s.advance len)) hs i
  rw [he] at ht
  match hr : operation i (s.advance len) with
  | .ok v => rw [hr] at ht hconfined; cases ht; exact Kept.keptOrEntered hconfined
  | .error (.trap x v) => rw [hr] at ht hconfined; exact raise_keptOrEntered (Discards.setPc hconfined) x len ht
  | .error (.hang v) => rw [hr] at ht hconfined; exact endlessChain_keptOrEntered (Discards.setPc hconfined) ht
  | .error (.fault f) => rw [hr] at ht; cases ht

end Exceptions

/-- Settles O60: every part of every instruction is confined, and so are the traps and the endless chain it can end in. -/
theorem unprivilegedConfined : Obligations.UnprivilegedConfined := by
  intro s t i hs ht
  obtain ⟨⟨h1, h2, h3, h4, h5, h6, h7, h8, h9, h10⟩, hend⟩ := exec_keptOrEntered hs ht
  refine ⟨h1, h2, h3, h4, h5, h6, h7, h8, h9, h10, ?_⟩
  obtain ⟨-, hpriv, hactive, hquiet⟩ | ⟨u, n, hn, ⟨regs, c, hu⟩, hentered⟩ := hend
  · have hsame : t.unprivileged = s.unprivileged := by simp only [State.unprivileged, h7, hpriv, h3]
    exact .inl ⟨hsame.trans hs, hactive, fun hw => (hquiet hw).2⟩
  · obtain rfl : u.regs = regs := hu.regs
    obtain rfl : u.psw.cc = c := congrArg Psw.cc hu.psw
    exact .inr ⟨u, n, hn, hu.1, hu.2, hentered⟩

end Sys2Proof.Machine

/-!
The instructions with one operand in memory that complete: loads (O14), effective addresses (O19), stores (O21), additions
to memory (O27, O28) and the bit instructions (O41, O42).
-/

namespace Sys2Proof.Machine

/-! ## Results as integers -/

theorem scc_eq_orderCC {n : Nat} (c : Bool) (v : BitVec n) : scc c v = orderCC c v.toInt := by
  have hzero : (v == 0#n) = decide (v.toInt = 0) := by
    rw [Bool.eq_iff_iff, beq_iff_eq, decide_eq_true_iff, ← BitVec.toInt_inj, BitVec.toInt_zero]
  rw [scc, orderCC, hzero]

theorem scc_ofInt (n : Nat) (c : Bool) (v : Int) : scc c (BitVec.ofInt n v) = orderCC c (v.bmod (2 ^ n)) := by
  rw [scc_eq_orderCC, BitVec.toInt_ofInt]

theorem outOfRange_eq_false_iff (n : Nat) (v : Int) :
    outOfRange n v = false ↔ -2 ^ (n - 1) ≤ v ∧ v < 2 ^ (n - 1) := by
  simp [outOfRange]

theorem outOfRange_toInt {n : Nat} (x : BitVec n) : outOfRange n x.toInt = false :=
  (outOfRange_eq_false_iff n _).2 ⟨BitVec.le_toInt x, BitVec.toInt_lt⟩

theorem ofInt_add_toInt {n : Nat} (x y : BitVec n) : BitVec.ofInt n (x.toInt + y.toInt) = x + y := by
  rw [BitVec.ofInt_add, BitVec.ofInt_toInt, BitVec.ofInt_toInt]

/-- The sum of two patterns overflows exactly when the sum of their integers does not fit (41 R191). -/
theorem addOverflow_eq {n : Nat} (x y : BitVec n) : addOverflow x y = outOfRange n (x.toInt + y.toInt) := by
  have h := BitVec.saddOverflow_eq x y
  rw [addOverflow, outOfRange, Bool.or_comm]
  exact h.symm

theorem delivered_register (s : State) (len : BitVec 18) (r : Reg) (v : Int) {k : Format} (h : k ≠ .double) :
    s.delivered len r v k = (s.advance len).deliver r (outOfRange 32 v) (.one (BitVec.ofInt 32 v)) := by
  rw [State.deliver, State.finishArithmetic, scc_ofInt]
  cases k with
  | double => exact absurd rfl h
  | byte | half | word => rfl

theorem delivered_pair (s : State) (len : BitVec 18) (r : Reg) (v : Int) :
    s.delivered len r v .double = (s.advance len).deliver r (outOfRange 64 v) (.two (BitVec.ofInt 64 v)) := by
  rw [State.deliver, State.finishArithmetic, scc_ofInt]
  rfl

/-- A byte is delivered with zeros, a halfword with its sign, a word and a doubleword as they are (40 R142). -/
theorem deliver_extend (s : State) (len : BitVec 18) (r : Reg) (d : Datum) :
    (s.advance len).deliver r false d.extend = s.delivered len r d.int d.format := by
  cases d with
  | byte b =>
    have hfits : outOfRange 32 (b.toNat : Int) = false := by
      rw [outOfRange_eq_false_iff]; have := b.isLt; omega
    have hword : BitVec.ofInt 32 (b.toNat : Int) = zextByte b := by
      rw [BitVec.ofInt_natCast, BitVec.ofNat_toNat]; rfl
    rw [Datum.format, delivered_register (k := .byte) _ _ _ _ nofun, Datum.int, hfits, hword]; rfl
  | half h =>
    have hfits : outOfRange 32 h.toInt = false := by
      have := (outOfRange_eq_false_iff 16 _).1 (outOfRange_toInt h)
      rw [outOfRange_eq_false_iff]; omega
    rw [Datum.format, delivered_register (k := .half) _ _ _ _ nofun, Datum.int, hfits]; rfl
  | word w =>
    rw [Datum.format, delivered_register (k := .word) _ _ _ _ nofun, Datum.int, outOfRange_toInt, BitVec.ofInt_toInt]; rfl
  | double x =>
    rw [Datum.format, delivered_pair, Datum.int, outOfRange_toInt, BitVec.ofInt_toInt]; rfl

/-! ## Operands and the program count -/

@[simp] theorem afterRead_advance (s : State) (len : BitVec 18) (e : Ea) :
    (s.advance len).afterRead e = (s.afterRead e).advance len := by
  unfold State.afterRead
  cases e.format <;> simp

@[simp] theorem seen_advance (s : State) (len : BitVec 18) (e : Ea) : (s.advance len).seen e = s.seen e := by
  unfold State.seen
  simp only [tick_advance]
  rfl

@[simp] theorem seenBad_advance (s : State) (len : BitVec 18) (e : Ea) : (s.advance len).seenBad e = s.seenBad e := by
  unfold State.seenBad
  simp only [tick_advance]
  rfl

theorem effAddr_ok_advance {s u : State} {m : MemRef} {e : Ea} (h : effAddr s m = .ok (e, u)) (len : BitVec 18) :
    effAddr (s.advance len) m = .ok (e, u.advance len) := by
  rw [effAddr_advance, h]; rfl

theorem Reads.advance {s v : State} {m : MemRef} {d : Datum} (h : Reads s m d v) (len : BitVec 18) :
    Reads (s.advance len) m d (v.advance len) := by
  obtain ⟨e, u, he, hp, hq, rfl, rfl⟩ := h
  exact ⟨e, u.advance len, effAddr_ok_advance he len, hp, by simpa using hq, by simp, by simp⟩

theorem Writable.advance {s u : State} {m : MemRef} {e : Ea} (h : Writable s m e u) (len : BitVec 18) :
    Writable (s.advance len) m e (u.advance len) :=
  ⟨effAddr_ok_advance h.1 len, h.2⟩

theorem Reads.bussed {s v : State} {m : MemRef} {d : Datum} (h : Reads s m d v) : Bussed s v := by
  obtain ⟨e, u, he, -, -, -, rfl⟩ := h
  exact (effAddr_bussed he).trans (afterRead_bussed u e)

/-! ## Loads (40_load_store.md R142 to R146) -/

/-- Each of the four loads is `loadOp`. -/
theorem exec_plainLoad {i : Instr} {r : Reg} {m : MemRef} (hi : i ∈ plainLoads r m) (s : State) :
    exec i s = runWord (loadOp r m) s := by
  simp only [plainLoads, List.mem_cons, List.not_mem_nil, or_false] at hi
  rcases hi with rfl | rfl | rfl | rfl <;> rfl

/-- Settles O14: the load delivers the extended operand, in the state after the cycles of the bus. -/
theorem loadResult : Obligations.LoadResult := by
  intro s v r m d h
  refine ⟨h.bussed.1, h.bussed.2, fun i hi => ?_⟩
  rw [exec_plainLoad hi, runWord_ok _ _ _ (loadOp_reads (h.advance 2#18) r), deliver_extend]

/-! ## Effective addresses (20_memory.md R64 to R67, 40_load_store.md R156) -/

theorem indexed_eq (s : State) (m : MemRef) :
    s.indexed m = m.addr + if m.x = 0#2 then 0#19 else (s.reg (0#1 ++ m.x)).setWidth 19 := by
  unfold State.indexed
  split
  · exact (BitVec.add_zero _).symm
  · rw [BitVec.setWidth_eq_extractLsb' (by decide)]

/-- The index registers are not the bus's to change. -/
@[simp] theorem indexed_tick (s : State) (m : MemRef) : s.tick.indexed m = s.indexed m := by
  simp only [State.indexed, State.reg, tick_regs]

/-- The format code after an indirect word: its own, unless its F and the C of its address are zero (20 R67). -/
def nextCode (f : Bool) (c : BitVec 2) (m : MemRef) (a : Addr) : Bool × BitVec 2 :=
  let keep := !m.f && a.c == 0#2
  (if keep then f else m.f, if keep then c else a.c)

section Indirect

variable {s : State} {m : MemRef} (h : m.ind = true) (hlimit : 0 < s.cfg.chainLimit)
include h hlimit

theorem effAddr_absent (hp : s.present (s.indexed m).wordAddr = false) :
    effAddr s m = .error (.trap .nonPresentMemory s) := by
  obtain ⟨n, hn⟩ := Nat.exists_eq_succ_of_ne_zero hlimit.ne'
  simp [effAddr, h, hn, chase, readWord_eq, hp, bind, Except.bind]

variable (hp : s.present (s.indexed m).wordAddr = true)
include hp

theorem effAddr_parity (hq : s.tick.parityBadAt (s.indexed m).wordAddr = true) :
    effAddr s m = .error (.trap .memoryParity s.tick) := by
  obtain ⟨n, hn⟩ := Nat.exists_eq_succ_of_ne_zero hlimit.ne'
  simp [effAddr, h, hn, chase, readWord_eq, hp, hq, bind, Except.bind]

/-- One level of indirection. -/
theorem effAddr_one_level (hq : s.tick.parityBadAt (s.indexed m).wordAddr = false) {w : Word}
    (hw : s.tick.wordAt (s.indexed m).wordAddr = w) (hend : (MemRef.ofWord w).ind = false) :
    let b := s.indexed (MemRef.ofWord w)
    let code := nextCode m.f (s.indexed m).c (MemRef.ofWord w) b
    effAddr s m = .ok (⟨code.1, code.2, b, some w⟩, s.tick) := by
  obtain ⟨n, hn⟩ := Nat.exists_eq_succ_of_ne_zero hlimit.ne'
  simp only [effAddr, h, hn, chase, readWord_eq, hp, hq, hw, hend, indexed_tick, bind, Except.bind, if_true,
    Bool.false_eq_true, if_false, nextCode]

end Indirect

/-- The word that LEA puts together: F, word address and C below twelve open bits. -/
theorem leaWord_fields (x : BitVec 12) (e : Ea) :
    let v : Word := x ++ BitVec.ofBool e.f ++ e.op
    bitAt v 12 = e.f ∧ v.extractLsb' 2 17 = e.word ∧ v.extractLsb' 0 2 = e.c := by
  refine ⟨?_, ?_, ?_⟩
  · change BitVec.getLsbD (x ++ BitVec.ofBool e.f ++ e.op) 19 = e.f
    rw [BitVec.getLsbD_append, BitVec.getLsbD_append]
    simp
  · exact (BitVec.extractLsb'_append_eq_of_add_le (by decide)).trans (wordAddr_op e)
  · exact (BitVec.extractLsb'_append_eq_of_add_le (by decide)).trans (c_append e.word e.c)

theorem exec_lea {s u : State} {m : MemRef} {e : Ea} (h : effAddr s m = .ok (e, u)) (r : Reg) :
    exec (.lea r m) s =
      .next (((u.advance 2#18).setReg r (Config.leaHighBits u.draws ++ BitVec.ofBool e.f ++ e.op)).drawn) := by
  refine runWord_ok _ _ _ ?_
  simp [opLea, effAddr_ok_advance h, bind, Except.bind, pure, Except.pure]

/-- Settles O19: the equations of `effAddr`, and the one of LEA for any address that can be formed. -/
theorem loadEffectiveAddress : Obligations.LoadEffectiveAddress := by
  intro s r m index a w
  have ha : s.indexed m = a := indexed_eq s m
  refine ⟨fun h => ?_, fun h hlimit => ⟨fun hp => ?_, fun hp hq => ?_, fun hp hq => ?_⟩, fun e u h => ?_⟩
  · rw [effAddr_direct s m h, ha]; rfl
  · exact effAddr_absent h hlimit (by rwa [ha])
  · exact effAddr_parity h hlimit (by rwa [ha]) (by rwa [ha])
  · intro q b keep hend
    have hb : s.indexed (MemRef.ofWord q) = b := by
      rw [indexed_eq, show (MemRef.ofWord q).addr = q.setWidth 19 from (BitVec.setWidth_eq_extractLsb' (by decide)).symm]
      rfl
    rw [effAddr_one_level h hlimit (by rwa [ha]) (by rwa [ha]) (w := q) (by rw [ha]; rfl) hend, hb, ha]
    rfl
  · obtain ⟨hf, hw, hc⟩ := leaWord_fields (Config.leaHighBits u.draws) e
    exact ⟨(effAddr_bussed h).1, (effAddr_bussed h).2, _, hf, hw, hc, exec_lea h r⟩

/-! ## Stores (40_load_store.md R160 to R167) -/

theorem Writable.bussed {s u : State} {m : MemRef} {e : Ea} (h : Writable s m e u) : Bussed s u := effAddr_bussed h.1

/-- An instruction that stores one operand of the effective format completes with it stored. -/
theorem runWord_storing {s u : State} {m : MemRef} {e : Ea} (h : Writable s m e u) {op : State → Act State}
    {d : Format → Datum} (hop : op (s.advance 2#18) = storing m d (s.advance 2#18)) (hd : ∀ k, (d k).format = k) :
    ∃ t, runWord op s = .next t ∧ Written (u.advance 2#18) t e (d e.format) :=
  ⟨_, runWord_ok _ _ _ (hop.trans (storing_writable (h.advance 2#18) d)), written_write _ (hd e.format)⟩

theorem storeDatum_format (s : State) (r : Reg) (k : Format) : (s.storeDatum r k).format = k := by cases k <;> rfl

theorem masked_format (w : Word) (d : Datum) : (d.masked w).format = d.format := by cases d <;> rfl

/-- What a store takes from the register or pair (20 R71). -/
theorem storeDatum_eq (s : State) (r : Reg) (k : Format) :
    s.storeDatum r k = match k with
      | .byte => .byte ((s.reg r).setWidth 8)
      | .half => .half ((s.reg r).setWidth 16)
      | .word => .word (s.reg r)
      | .double => .double (s.pair r) := by
  cases k <;> simp [State.storeDatum, BitVec.setWidth_eq_extractLsb']

/-- What a masked store takes: the register ANDed with R4, or each register of the pair (40 R164 to R167). -/
theorem storeDatum_masked_eq (s : State) (r : Reg) (k : Format) :
    (s.storeDatum r k).masked s.mask = match k with
      | .byte => .byte ((s.reg r &&& s.reg 4#3).setWidth 8)
      | .half => .half ((s.reg r &&& s.reg 4#3).setWidth 16)
      | .word => .word (s.reg r &&& s.reg 4#3)
      | .double => .double ((s.reg (pairEven r) &&& s.reg 4#3) ++ (s.reg (pairOdd r) &&& s.reg 4#3)) := by
  cases k with
  | byte | half => simp [State.storeDatum, Datum.masked, State.mask, BitVec.setWidth_eq_extractLsb', BitVec.extractLsb'_and]
  | word => rfl
  | double => exact congrArg Datum.double BitVec.and_append

/-- Settles O21: each of the eight is `storing` with what the register, or the register under the mask, gives. -/
theorem storeResult : Obligations.StoreResult := by
  intro s u r m e h
  refine ⟨h.bussed.1, h.bussed.2, fun i hi => ?plain, fun i hi => ?masked⟩
  case plain =>
    have key := storeDatum_eq s r e.format ▸ runWord_storing (op := storeOp r m) h rfl (storeDatum_format s r)
    simp only [List.mem_cons, List.not_mem_nil, or_false] at hi
    rcases hi with rfl | rfl | rfl | rfl <;> exact key
  case masked =>
    have key := storeDatum_masked_eq s r e.format ▸ runWord_storing (op := storeMaskedOp r m) h rfl
      fun k => (masked_format _ _).trans (storeDatum_format s r k)
    simp only [List.mem_cons, List.not_mem_nil, or_false] at hi
    rcases hi with rfl | rfl | rfl | rfl <;> exact key

/-! ## Stores and the condition code -/

section SetCC

variable (s : State) (c : CC)

theorem writeByte_setCC (a : Addr) (b : Byte) : (s.setCC c).writeByte a b = (s.writeByte a b).setCC c := by
  rw [State.writeByte, tick_setCC]; rfl

theorem writeHalf_setCC (a : Addr) (v : Half) : (s.setCC c).writeHalf a v = (s.writeHalf a v).setCC c := by
  rw [State.writeHalf, tick_setCC]; rfl

theorem writeWord_setCC (w : WordAddr) (v : Word) : (s.setCC c).writeWord w v = (s.writeWord w v).setCC c := by
  rw [State.writeWord, tick_setCC]; rfl

/-- The condition code may be written before a store or after it. -/
theorem write_setCC (e : Ea) (d : Datum) : (s.setCC c).write e d = (s.write e d).setCC c := by
  cases d with
  | byte b => exact writeByte_setCC s c e.op b
  | half v => exact writeHalf_setCC s c e.op v
  | word v => exact writeWord_setCC s c e.word v
  | double v => simp only [State.write, State.writeDouble, writeWord_setCC]

theorem written_setCC (len : BitVec 18) {e : Ea} {d : Datum} (h : d.format = e.format) :
    Written (s.after len c) (((s.advance len).write e d).setCC c) e d := by
  rw [← write_setCC]
  exact written_write _ h

end SetCC

/-! ## Add register to memory (41_fixed_point.md R198 to R201) -/

/-- Each of the four is `addRegisterToMemoryOp`. -/
theorem exec_memoryAdder {i : Instr} {r : Reg} {m : MemRef} (hi : i ∈ memoryAdders r m) (s : State) :
    exec i s = runWord (addRegisterToMemoryOp r m) s := by
  simp only [memoryAdders, List.mem_cons, List.not_mem_nil, or_false] at hi
  rcases hi with rfl | rfl | rfl | rfl <;> rfl

theorem exec_memoryAdder_writable {s u : State} {m : MemRef} {e : Ea} (h : Writable s m e u) (hq : u.seenBad e = false)
    {i : Instr} {r : Reg} (hi : i ∈ memoryAdders r m) :
    exec i s = .next (((u.afterRead e).advance 2#18).addToMemory r e (u.seen e)) := by
  rw [exec_memoryAdder hi]
  refine runWord_ok _ _ _ ?_
  have hopen : checkWrite (u.advance 2#18) e.word = .ok () := (checkWrite_ok _ _).2 h.2
  have hp : (u.advance 2#18).present e.word = true := h.2.1
  simp [addRegisterToMemoryOp, effAddr_ok_advance h.1, fetchForUpdate, hopen, fetch, checkPresent, hp, hq, bind,
    Except.bind, pure, Except.pure]

/-- The sum of two patterns as the sum of their integers: its pattern, whether it fits, and its condition code. -/
theorem scc_add {n : Nat} (x y : BitVec n) :
    scc (addOverflow x y) (x + y) = orderCC (outOfRange n (x.toInt + y.toInt)) ((x.toInt + y.toInt).bmod (2 ^ n)) := by
  rw [addOverflow_eq, ← ofInt_add_toInt, scc_ofInt]

theorem addToMemory_word (s : State) (r : Reg) (e : Ea) (w : Word) :
    let v := (s.reg r).toInt + w.toInt
    s.addToMemory r e (.word w) =
      ((s.write e (.word (BitVec.ofInt 32 v))).setCC (orderCC (outOfRange 32 v) (v.bmod (2 ^ 32)))).requestArithmetic
        (outOfRange 32 v) := by
  intro v
  rw [State.addToMemory, State.finishArithmetic, scc_add, ofInt_add_toInt]
  rfl

theorem addToMemory_double (s : State) (r : Reg) (e : Ea) (d : DWord) :
    let v := (s.pair r).toInt + d.toInt
    s.addToMemory r e (.double d) =
      ((s.write e (.double (BitVec.ofInt 64 v))).setCC (orderCC (outOfRange 64 v) (v.bmod (2 ^ 64)))).requestArithmetic
        (outOfRange 64 v) := by
  intro v
  rw [State.addToMemory, State.finishArithmetic, scc_add, ofInt_add_toInt]
  rfl

/-- Settles O27: the sum is stored and then the condition code written, which is the same as the other way round. -/
theorem addToMemoryWide : Obligations.AddToMemoryWide := by
  intro s u r m e h hq v ovf w i hi
  have hexec := exec_memoryAdder_writable h hq hi
  have hbus := h.bussed.trans (afterRead_bussed u e)
  have hreg : ((u.afterRead e).advance 2#18).reg r = s.reg r := hbus.reg r
  have hpair : ((u.afterRead e).advance 2#18).pair r = s.pair r := hbus.pair r
  constructor
  · intro hk
    have hseen : u.seen e = .word (u.tick.wordAt e.word) := by rw [State.seen, hk]
    have hv : v = (s.reg r).toInt + (u.tick.wordAt e.word).toInt := by simp only [v, hk, hseen]; rfl
    refine ⟨_, written_setCC (u.afterRead e) _ 2#18 hk.symm, ?_⟩
    rw [hexec, hseen, addToMemory_word, hreg, ← hv]
    simp only [ovf, hk, Format.bits]
  · intro hk
    have hseen : u.seen e = .double (u.tick.tick.wordAt (evenWord e.word) ++ u.tick.wordAt (oddWord e.word)) := by
      rw [State.seen, hk]
    have hv : v = (s.pair r).toInt + (u.tick.tick.wordAt (evenWord e.word) ++ u.tick.wordAt (oddWord e.word)).toInt := by
      simp only [v, hk, hseen]; rfl
    refine ⟨_, written_setCC (u.afterRead e) _ 2#18 hk.symm, ?_⟩
    rw [hexec, hseen, addToMemory_double, hpair, ← hv]
    simp only [ovf, hk, Format.bits]

theorem armCC_eq {n : Nat} (k : Nat) (v : BitVec n) :
    ∃ c1 c2 c3 : Bool, armCC k (v == 0#n) = ⟨c1, c2, c3, decide (v = 0#n)⟩ := ⟨_, _, _, rfl⟩

theorem addToMemory_byte (s : State) (r : Reg) (e : Ea) (b : Byte) :
    let v := b + (s.reg r).setWidth 8
    ∃ c1 c2 c3 : Bool, s.addToMemory r e (.byte b) =
      ((s.write e (.byte v)).setCC ⟨c1, c2, c3, decide (v = 0#8)⟩).drawn := by
  intro v
  obtain ⟨c1, c2, c3, hc⟩ := armCC_eq s.draws v
  exact ⟨c1, c2, c3, by rw [← hc]; simp only [v, BitVec.setWidth_eq_extractLsb', Nat.reduceLeDiff]; rfl⟩

theorem addToMemory_half (s : State) (r : Reg) (e : Ea) (b : Half) :
    let v := b + (s.reg r).setWidth 16
    ∃ c1 c2 c3 : Bool, s.addToMemory r e (.half b) =
      ((s.write e (.half v)).setCC ⟨c1, c2, c3, decide (v = 0#16)⟩).drawn := by
  intro v
  obtain ⟨c1, c2, c3, hc⟩ := armCC_eq s.draws v
  exact ⟨c1, c2, c3, by rw [← hc]; simp only [v, BitVec.setWidth_eq_extractLsb', Nat.reduceLeDiff]; rfl⟩

/-- Settles O28: the sum is stored and CC1 to CC3 are drawn. -/
theorem addToMemoryNarrow : Obligations.AddToMemoryNarrow := by
  intro s u r m e h hq i hi
  have hexec := exec_memoryAdder_writable h hq hi
  have hreg : (u.tick.advance 2#18).reg r = s.reg r := h.bussed.tick.reg r
  constructor
  · intro hk
    obtain ⟨c1, c2, c3, hadd⟩ := addToMemory_byte (u.tick.advance 2#18) r e (u.tick.byteAt e.op)
    rw [State.afterRead, State.seen, hk] at hexec
    rw [hreg] at hadd
    exact ⟨_, c1, c2, c3, written_setCC u.tick _ 2#18 hk.symm, hexec.trans (congrArg _ hadd)⟩
  · intro hk
    obtain ⟨c1, c2, c3, hadd⟩ := addToMemory_half (u.tick.advance 2#18) r e (u.tick.halfAt e.op)
    rw [State.afterRead, State.seen, hk] at hexec
    rw [hreg] at hadd
    exact ⟨_, c1, c2, c3, written_setCC u.tick _ 2#18 hk.symm, hexec.trans (congrArg _ hadd)⟩

/-! ## Bits (44_bit_manipulation.md R280 to R289) -/

/-- The one at bit `n` of byte `y`, counted from the left (44 R280). -/
theorem bitWord_eq_oneBit (n : BitVec 3) (y : BitVec 2) : bitWord (bitPosition n y) = oneBit n y := by
  revert n y; decide

theorem bitOfByte_eq (n : BitVec 3) : bitOfByte n = 0x80#8 >>> n.toNat := by revert n; decide

/-- The bit of a register that a bit instruction names. -/
theorem bitAt_bitPosition (x : Word) (n : BitVec 3) (y : BitVec 2) :
    bitAt x (bitPosition n y) = (x &&& oneBit n y != 0#32) := by
  have hne : oneBit n y ≠ 0#32 := by revert n y; decide
  have hand : x &&& oneBit n y = if bitAt x (bitPosition n y) then oneBit n y else 0#32 := by
    rw [← bitWord_eq_oneBit, bitWord, ← BitVec.twoPow_eq, BitVec.and_twoPow]; rfl
  rw [hand]
  cases bitAt x (bitPosition n y) <;> simp [hne]

theorem exec_sbr (s : State) (n : BitVec 3) (r : Reg) (y : BitVec 2) :
    exec (.sbr n r y) s = .next ((s.after 1#18 (bitIn s.psw.cc (s.reg r &&& oneBit n y != 0#32))).setReg r
      (s.reg r ||| oneBit n y)) := by
  rw [← bitAt_bitPosition, ← bitWord_eq_oneBit]; rfl

theorem exec_zbr (s : State) (n : BitVec 3) (r : Reg) (y : BitVec 2) :
    exec (.zbr n r y) s = .next ((s.after 1#18 (bitIn s.psw.cc (s.reg r &&& oneBit n y != 0#32))).setReg r
      (s.reg r &&& ~~~(oneBit n y))) := by
  rw [← bitAt_bitPosition, ← bitWord_eq_oneBit]; rfl

theorem exec_tbr (s : State) (n : BitVec 3) (r : Reg) (y : BitVec 2) :
    exec (.tbr n r y) s = .next (s.after 1#18 (bitIn s.psw.cc (s.reg r &&& oneBit n y != 0#32))) := by
  rw [← bitAt_bitPosition]; rfl

section Bit

variable {s u : State} {m : MemRef} {e : Ea} (he : effAddr s m = .ok (e, u)) (hq : u.tick.parityBadAt e.word = false)
  (n : BitVec 3)
include he hq

theorem exec_tbm (hp : u.present e.word = true) :
    exec (.tbm n m) s = .next (u.tick.after 2#18 (bitIn s.psw.cc (bitAt (u.tick.byteAt e.op) n.toNat))) := by
  have hread : readByte (u.advance 2#18) (bitByte e) = .ok (u.tick.byteAt e.op, u.tick.advance 2#18) := by
    rw [readByte_ok, bitByte, wordAddr_op, tick_advance]
    exact ⟨hp, hq, rfl, rfl⟩
  have hcc : u.psw.cc = s.psw.cc := congrArg Psw.cc (effAddr_bussed he).psw
  have hop : opTbm n m (s.advance 2#18) =
      .ok ((u.tick.advance 2#18).setCC (shiftInto s.psw.cc (bitAt (u.tick.byteAt e.op) n.toNat))) := by
    simp [opTbm, effAddr_ok_advance he, hread, hcc, bind, Except.bind, pure, Except.pure]
  exact runWord_ok (opTbm n m) s _ hop

/-- SBM and ZBM: one byte is read and stored again, changed. -/
theorem runWord_changeBit (hw : WriteOpen u e.word) (f : Byte → Byte) :
    let b := u.tick.byteAt e.op
    ∃ t, runWord (changeBit m n f) s = .next t ∧
      Written (u.tick.after 2#18 (bitIn s.psw.cc (bitAt b n.toNat))) t e.asByte (.byte (f b)) := by
  intro b
  have hopen : checkWrite (u.advance 2#18) e.word = .ok () := (checkWrite_ok _ _).2 hw
  have hread : readByte (u.advance 2#18) (bitByte e) = .ok (b, u.tick.advance 2#18) := by
    rw [readByte_ok, bitByte, wordAddr_op, tick_advance]
    exact ⟨hw.1, hq, rfl, rfl⟩
  have hcc : u.psw.cc = s.psw.cc := congrArg Psw.cc (effAddr_bussed he).psw
  have hop : changeBit m n f (s.advance 2#18) =
      .ok (((u.tick.advance 2#18).writeByte (bitByte e) (f b)).setCC (shiftInto s.psw.cc (bitAt b n.toNat))) := by
    simp [changeBit, effAddr_ok_advance he, hopen, hread, hcc, bind, Except.bind, pure, Except.pure]
  exact ⟨_, runWord_ok _ s _ hop, written_setCC (e := e.asByte) (d := .byte (f b)) u.tick _ 2#18 rfl⟩

end Bit

/-- Settles O41: the memory forms change one byte by `changeBit`, the register forms are the model's own equations in the
statement's terms. -/
theorem bitInstructions : Obligations.BitInstructions := by
  intro s u n r y m e cc b after
  refine ⟨fun hw hq => ⟨?_, ?_⟩, fun he hp hq => exec_tbm he hq n hp, exec_sbr s n r y,
    exec_zbr s n r y, exec_tbr s n r y⟩
  · rw [← bitOfByte_eq]; exact runWord_changeBit hw.1 hq n hw.2 fun b => b ||| bitOfByte n
  · rw [← bitOfByte_eq]; exact runWord_changeBit hw.1 hq n hw.2 fun b => b &&& ~~~(bitOfByte n)

@[simp] theorem c_op (e : Ea) : e.op.c = e.c := c_append e.word e.c

/-- Settles O42: the one at the addressed bit is added to the whole word, which is stored before the condition code is
written. -/
theorem addBitMemory : Obligations.AddBitMemory := by
  intro s u n m e hw hq v ovf
  have hopen : checkWrite (u.advance 2#18) e.word = .ok () := (checkWrite_ok _ _).2 hw.2
  have hread : readWord (u.advance 2#18) e.word = .ok (u.tick.wordAt e.word, u.tick.advance 2#18) := by
    rw [readWord_ok, tick_advance]
    exact ⟨hw.2.1, hq, rfl, rfl⟩
  refine ⟨_, written_setCC u.tick _ 2#18 rfl, runWord_ok (opAbm n m) s _ ?_⟩
  calc opAbm n m (s.advance 2#18)
      = .ok (((u.tick.advance 2#18).writeWord e.word (u.tick.wordAt e.word + oneBit n e.c)).finishArithmetic
          (scc (addOverflow (u.tick.wordAt e.word) (oneBit n e.c)) (u.tick.wordAt e.word + oneBit n e.c))) := by
        simp [opAbm, effAddr_ok_advance hw.1, hopen, hread, bitByte, c_op, bitWord_eq_oneBit, bind, Except.bind, pure,
          Except.pure]
    _ = _ := by
        rw [State.finishArithmetic, scc_add, ← ofInt_add_toInt]; rfl

end Sys2Proof.Machine

/-!
The traps of an instruction with an operand in memory: bad parity and traps on the way to the operand (O17), protected
stores (O23) and absent memory (O24).
-/

namespace Sys2Proof.Machine

/-! ## A trap in the middle of a word instruction -/

/-- The trap finds the program count at the instruction and what the bus did (60 R432). -/
theorem runWord_trap_bussed {op : State → Act State} {s u : State} {t : Trap} (h : Bussed s u)
    (hop : op (s.advance 2#18) = .error (.trap t (u.advance 2#18))) : runWord op s = raise t 2#18 u := by
  rw [runWord, hop, complete_trap, setPc_advance, ← h.psw, setPc_self]

theorem checkPresent_absent {s : State} {w : WordAddr} (h : s.present w = false) :
    checkPresent s w = .error (.trap .nonPresentMemory s) := by
  simp [checkPresent, h]

theorem checkWrite_absent {s : State} {w : WordAddr} (h : s.present w = false) :
    checkWrite s w = .error (.trap .nonPresentMemory s) := by
  simp [checkWrite, h]

/-- A present word that may not be written (20 R75, R76). -/
theorem checkWrite_protected {s : State} {w : WordAddr} (hp : s.present w = true)
    (h : s.portReadOnly w = true ∨ (s.notPrivileged = true ∧ s.pageLocked w = true)) :
    checkWrite s w = .error (.trap .privilegeViolation s) := by
  rcases h with h | ⟨hn, hl⟩
  · simp [checkWrite, hp, h]
  · simp [checkWrite, hp, hn, hl]

theorem fetch_absent {s : State} {e : Ea} (h : s.present e.word = false) :
    fetch s e = .error (.trap .nonPresentMemory s) := by
  rw [fetch, checkPresent_absent h]; rfl

theorem fetch_parity {s : State} {e : Ea} (hp : s.present e.word = true) (hq : s.seenBad e = true) :
    fetch s e = .error (.trap .memoryParity (s.afterRead e)) := by
  rw [fetch, (checkPresent_ok s e.word).2 hp]; simp [hq, bind, Except.bind]

/-! ## What an operation begins with -/

/-- The operation ends where the effective address cannot be formed. -/
def FormsAddress (m : MemRef) (op : State → Act State) : Prop :=
  ∀ (s : State) (x : Stop), effAddr s m = .error x → op s = .error x

/-- The operation reads one operand of any format and goes on with it. -/
def ReadsOperand (m : MemRef) (op : State → Act State) : Prop := ∃ f, ∀ s, op s = withOperand m f s

/-- The operation reads one operand that is no doubleword and goes on with it. -/
def ReadsWordOperand (m : MemRef) (op : State → Act State) : Prop := ∃ f, ∀ s, op s = withWordOperand m f s

/-- The operation stores one operand. -/
def StoresOperand (m : MemRef) (op : State → Act State) : Prop :=
  ∃ f : State → Format → Datum, ∀ s, op s = storing m (f s) s

/-- With the address the operation asks whether it may write, and ends where it may not (20 R78). -/
def ChecksWriteFirst (m : MemRef) (op : State → Act State) : Prop :=
  ∀ (s u : State) (e : Ea) (x : Stop), effAddr s m = .ok (e, u) → checkWrite u e.word = .error x → op s = .error x

section Operations

variable (r : Reg) (n : BitVec 3) (m : MemRef)

theorem ReadsOperand.formsAddress {op : State → Act State} (h : ReadsOperand m op) : FormsAddress m op := by
  obtain ⟨f, hf⟩ := h
  exact fun s x hx => (hf s).trans (withOperand_stop hx f)

theorem ReadsWordOperand.formsAddress {op : State → Act State} (h : ReadsWordOperand m op) : FormsAddress m op := by
  obtain ⟨f, hf⟩ := h
  exact fun s x hx => (hf s).trans (by simp [withWordOperand, hx, bind, Except.bind])

theorem loadMaskedOp_readsOperand : ReadsOperand m (loadMaskedOp r m) := ⟨_, fun _ => rfl⟩
theorem loadNegativeOp_readsOperand : ReadsOperand m (loadNegativeOp r m) := ⟨_, fun _ => rfl⟩
theorem addMemoryOp_readsOperand : ReadsOperand m (addMemoryOp r m) := ⟨_, fun _ => rfl⟩
theorem subtractMemoryOp_readsOperand : ReadsOperand m (subtractMemoryOp r m) := ⟨_, fun _ => rfl⟩
theorem andMemoryOp_readsOperand : ReadsOperand m (andMemoryOp r m) := ⟨_, fun _ => rfl⟩
theorem orMemoryOp_readsOperand : ReadsOperand m (orMemoryOp r m) := ⟨_, fun _ => rfl⟩
theorem xorMemoryOp_readsOperand : ReadsOperand m (xorMemoryOp r m) := ⟨_, fun _ => rfl⟩
theorem compareMemoryOp_readsOperand : ReadsOperand m (compareMemoryOp r m) := ⟨_, fun _ => rfl⟩
theorem compareMaskedMemoryOp_readsOperand : ReadsOperand m (compareMaskedMemoryOp r m) := ⟨_, fun _ => rfl⟩

theorem multiplyMemoryOp_readsWordOperand : ReadsWordOperand m (multiplyMemoryOp r m) := ⟨_, fun _ => rfl⟩
theorem divideMemoryOp_readsWordOperand : ReadsWordOperand m (divideMemoryOp r m) := ⟨_, fun _ => rfl⟩

theorem loadOp_formsAddress : FormsAddress m (loadOp r m) :=
  fun s x h => by simp [loadOp, h, bind, Except.bind]

theorem StoresOperand.formsAddress {op : State → Act State} (h : StoresOperand m op) : FormsAddress m op := by
  obtain ⟨f, hf⟩ := h
  exact fun s x hx => (hf s).trans (by simp [storing, hx, bind, Except.bind])

theorem StoresOperand.checksWriteFirst {op : State → Act State} (h : StoresOperand m op) : ChecksWriteFirst m op := by
  obtain ⟨f, hf⟩ := h
  exact fun s u e x hx hc => (hf s).trans (by simp [storing, store, hx, hc, bind, Except.bind])

theorem storeOp_storesOperand : StoresOperand m (storeOp r m) := ⟨_, fun _ => rfl⟩
theorem storeMaskedOp_storesOperand : StoresOperand m (storeMaskedOp r m) := ⟨_, fun _ => rfl⟩
theorem zeroMemoryOp_storesOperand : StoresOperand m (zeroMemoryOp m) := ⟨_, fun _ => rfl⟩

theorem opStf_formsAddress : FormsAddress m (opStf r m) :=
  fun s x h => by simp [opStf, h, bind, Except.bind]

theorem opStf_checksWriteFirst : ChecksWriteFirst m (opStf r m) :=
  fun s u e x h hc => by simp [opStf, h, hc, bind, Except.bind]

theorem addRegisterToMemoryOp_formsAddress : FormsAddress m (addRegisterToMemoryOp r m) :=
  fun s x h => by simp [addRegisterToMemoryOp, h, bind, Except.bind]

theorem addRegisterToMemoryOp_checksWriteFirst : ChecksWriteFirst m (addRegisterToMemoryOp r m) :=
  fun s u e x h hc => by simp [addRegisterToMemoryOp, fetchForUpdate, h, hc, bind, Except.bind]

theorem changeBit_formsAddress (f : Byte → Byte) : FormsAddress m (changeBit m n f) :=
  fun s x h => by simp [changeBit, h, bind, Except.bind]

theorem changeBit_checksWriteFirst (f : Byte → Byte) : ChecksWriteFirst m (changeBit m n f) :=
  fun s u e x h hc => by simp [changeBit, h, hc, bind, Except.bind]

theorem opAbm_formsAddress : FormsAddress m (opAbm n m) :=
  fun s x h => by simp [opAbm, h, bind, Except.bind]

theorem opAbm_checksWriteFirst : ChecksWriteFirst m (opAbm n m) :=
  fun s u e x h hc => by simp [opAbm, h, hc, bind, Except.bind]

theorem opTbm_formsAddress : FormsAddress m (opTbm n m) :=
  fun s x h => by simp [opTbm, h, bind, Except.bind]

theorem opExm_formsAddress : FormsAddress m (opExm m) :=
  fun s x h => by simp [opExm, h, bind, Except.bind]

theorem opLea_formsAddress : FormsAddress m (opLea r m) :=
  fun s x h => by simp [opLea, h, bind, Except.bind]

theorem opLf_formsAddress : FormsAddress m (opLf r m) :=
  fun s x h => by simp [opLf, h, bind, Except.bind]

theorem branchIf_formsAddress : FormsAddress m (branchIf true m) :=
  fun s x h => by simp [branchIf, h, bind, Except.bind]

theorem opBl_formsAddress : FormsAddress m (opBl m) :=
  fun s x h => by simp [opBl, h, bind, Except.bind]

end Operations

/-! ## What the instructions of the statements begin with -/

section Lists

variable {i : Instr} {r : Reg} {n : BitVec 3} {m : MemRef}

theorem exec_operandReader (hi : i ∈ operandReaders r m) :
    ∃ op, ReadsOperand m op ∧ ∀ s, exec i s = runWord op s := by
  simp only [operandReaders, List.mem_cons, List.not_mem_nil, or_false] at hi
  rcases hi with rfl | rfl | rfl | rfl | hi
  any_goals exact ⟨_, loadMaskedOp_readsOperand r m, fun _ => rfl⟩
  rcases hi with rfl | rfl | rfl | rfl | hi
  any_goals exact ⟨_, loadNegativeOp_readsOperand r m, fun _ => rfl⟩
  rcases hi with rfl | rfl | rfl | rfl | hi
  any_goals exact ⟨_, addMemoryOp_readsOperand r m, fun _ => rfl⟩
  rcases hi with rfl | rfl | rfl | rfl | hi
  any_goals exact ⟨_, subtractMemoryOp_readsOperand r m, fun _ => rfl⟩
  rcases hi with rfl | rfl | rfl | rfl | hi
  any_goals exact ⟨_, andMemoryOp_readsOperand r m, fun _ => rfl⟩
  rcases hi with rfl | rfl | rfl | rfl | hi
  any_goals exact ⟨_, orMemoryOp_readsOperand r m, fun _ => rfl⟩
  rcases hi with rfl | rfl | rfl | rfl | hi
  any_goals exact ⟨_, xorMemoryOp_readsOperand r m, fun _ => rfl⟩
  rcases hi with rfl | rfl | rfl | rfl | hi
  any_goals exact ⟨_, compareMemoryOp_readsOperand r m, fun _ => rfl⟩
  rcases hi with rfl | rfl | rfl | rfl
  any_goals exact ⟨_, compareMaskedMemoryOp_readsOperand r m, fun _ => rfl⟩

theorem exec_multiplyDivide (hi : i ∈ multiplyDivides r m) :
    ∃ op, ReadsWordOperand m op ∧ ∀ s, exec i s = runWord op s := by
  simp only [multiplyDivides, List.mem_cons, List.not_mem_nil, or_false] at hi
  rcases hi with rfl | rfl | rfl | hi
  any_goals exact ⟨_, multiplyMemoryOp_readsWordOperand r m, fun _ => rfl⟩
  rcases hi with rfl | rfl | rfl
  all_goals exact ⟨_, divideMemoryOp_readsWordOperand r m, fun _ => rfl⟩

theorem exec_float (hi : i ∈ floats r m) :
    ∃ f : {n : Nat} → BitVec n → BitVec n → FloatResult n, ∀ s, exec i s = runWord (floatOp f r m) s := by
  simp only [floats, List.mem_cons, List.not_mem_nil, or_false] at hi
  rcases hi with rfl | rfl | rfl | rfl | rfl | rfl | rfl | rfl <;> exact ⟨_, fun _ => rfl⟩

theorem exec_operandWriter (hi : i ∈ operandWriters r m) :
    ∃ op, FormsAddress m op ∧ ChecksWriteFirst m op ∧ ∀ s, exec i s = runWord op s := by
  have hstores : ∀ {op}, StoresOperand m op → (∀ s, exec i s = runWord op s) →
      ∃ op, FormsAddress m op ∧ ChecksWriteFirst m op ∧ ∀ s, exec i s = runWord op s :=
    fun h k => ⟨_, h.formsAddress, h.checksWriteFirst, k⟩
  simp only [operandWriters, List.mem_cons, List.not_mem_nil, or_false] at hi
  rcases hi with rfl | rfl | rfl | rfl | hi
  any_goals exact hstores (storeOp_storesOperand r m) fun _ => rfl
  rcases hi with rfl | rfl | rfl | rfl | hi
  any_goals exact hstores (storeMaskedOp_storesOperand r m) fun _ => rfl
  rcases hi with rfl | rfl | rfl | rfl | rfl
  any_goals exact hstores (zeroMemoryOp_storesOperand m) fun _ => rfl
  exact ⟨_, opStf_formsAddress r m, opStf_checksWriteFirst r m, fun _ => rfl⟩

theorem exec_bitUpdater (hi : i ∈ bitUpdaters n m) :
    ∃ op, FormsAddress m op ∧ ChecksWriteFirst m op ∧ ∀ s, exec i s = runWord op s := by
  simp only [bitUpdaters, List.mem_cons, List.not_mem_nil, or_false] at hi
  rcases hi with rfl | rfl | rfl
  · exact ⟨_, changeBit_formsAddress n m _, changeBit_checksWriteFirst n m _, fun _ => rfl⟩
  · exact ⟨_, changeBit_formsAddress n m _, changeBit_checksWriteFirst n m _, fun _ => rfl⟩
  · exact ⟨_, opAbm_formsAddress n m, opAbm_checksWriteFirst n m, fun _ => rfl⟩

theorem exec_addressUser (hi : i ∈ addressUsers r n m) : ∃ op, FormsAddress m op ∧ ∀ s, exec i s = runWord op s := by
  simp only [addressUsers, List.mem_cons, List.not_mem_nil, or_false] at hi
  rcases hi with rfl | rfl | rfl | rfl | rfl | rfl
  · exact ⟨_, opTbm_formsAddress n m, fun _ => rfl⟩
  · exact ⟨_, opExm_formsAddress m, fun _ => rfl⟩
  · exact ⟨_, opLea_formsAddress r m, fun _ => rfl⟩
  · exact ⟨_, opLf_formsAddress r m, fun _ => rfl⟩
  · exact ⟨_, branchIf_formsAddress m, fun _ => rfl⟩
  · exact ⟨_, opBl_formsAddress m, fun _ => rfl⟩

/-- Every instruction that may store an operand. -/
theorem exec_writer (hi : i ∈ operandWriters r m ++ memoryAdders r m ++ bitUpdaters n m) :
    ∃ op, FormsAddress m op ∧ ChecksWriteFirst m op ∧ ∀ s, exec i s = runWord op s := by
  simp only [List.mem_append] at hi
  obtain (hi | hi) | hi := hi
  · exact exec_operandWriter hi
  · exact ⟨_, addRegisterToMemoryOp_formsAddress r m, addRegisterToMemoryOp_checksWriteFirst r m, exec_memoryAdder hi⟩
  · exact exec_bitUpdater hi

/-- Every instruction that forms an address whatever the state. -/
theorem exec_addressFormer (hi : i ∈ plainLoads r m ++ operandReaders r m ++ multiplyDivides r m ++ operandWriters r m ++
    memoryAdders r m ++ bitUpdaters n m ++ addressUsers r n m) :
    ∃ op, FormsAddress m op ∧ ∀ s, exec i s = runWord op s := by
  have hwriter := exec_writer (i := i) (r := r) (n := n) (m := m)
  simp only [List.mem_append] at hi hwriter
  obtain (((((hi | hi) | hi) | hi) | hi) | hi) | hi := hi
  · exact ⟨_, loadOp_formsAddress r m, exec_plainLoad hi⟩
  · obtain ⟨op, hop, hexec⟩ := exec_operandReader hi
    exact ⟨op, hop.formsAddress, hexec⟩
  · obtain ⟨op, hop, hexec⟩ := exec_multiplyDivide hi
    exact ⟨op, hop.formsAddress, hexec⟩
  · obtain ⟨op, ha, -, hop⟩ := hwriter (.inl (.inl hi))
    exact ⟨op, ha, hop⟩
  · obtain ⟨op, ha, -, hop⟩ := hwriter (.inl (.inr hi))
    exact ⟨op, ha, hop⟩
  · obtain ⟨op, ha, -, hop⟩ := hwriter (.inr hi)
    exact ⟨op, ha, hop⟩
  · exact exec_addressUser hi

end Lists

/-! ## Protected stores -/

theorem runWord_checksWriteFirst {op : State → Act State} {s u : State} {m : MemRef} {e : Ea} {t : Trap}
    (hop : ChecksWriteFirst m op) (he : effAddr s m = .ok (e, u))
    (hc : checkWrite (u.advance 2#18) e.word = .error (.trap t (u.advance 2#18))) : runWord op s = raise t 2#18 u :=
  runWord_trap_bussed (effAddr_bussed he) (hop _ _ _ _ (effAddr_ok_advance he 2#18) hc)

/-- Settles O23: the write check stops every one of them before anything is read or stored. -/
theorem protectedStoreTraps : Obligations.ProtectedStoreTraps := by
  intro s u r n m e he hp hlock i hi
  obtain ⟨op, -, hop, hexec⟩ := exec_writer hi
  rw [hexec]
  exact runWord_checksWriteFirst hop he (checkWrite_protected hp hlock)

/-! ## Absent operands and operands of bad parity -/

section Operand

variable {s u : State} {m : MemRef} {e : Ea} (he : effAddr s m = .ok (e, u)) (r : Reg) (n : BitVec 3)
include he

theorem ReadsOperand.absent {op : State → Act State} (h : ReadsOperand m op) (hp : u.present e.word = false) :
    op s = .error (.trap .nonPresentMemory u) := by
  obtain ⟨f, hf⟩ := h
  exact (hf s).trans (withOperand_absent he hp f)

theorem ReadsOperand.parity {op : State → Act State} (h : ReadsOperand m op) (hp : u.present e.word = true)
    (hq : u.seenBad e = true) : op s = .error (.trap .memoryParity (u.afterRead e)) := by
  obtain ⟨f, hf⟩ := h
  exact (hf s).trans (withOperand_parity he hp hq f)

theorem ReadsWordOperand.absent {op : State → Act State} (h : ReadsWordOperand m op) (hk : e.format ≠ .double)
    (hp : u.present e.word = false) : op s = .error (.trap .nonPresentMemory u) := by
  obtain ⟨f, hf⟩ := h
  exact (hf s).trans (by simp [withWordOperand, he, hk, fetch_absent hp, bind, Except.bind])

theorem ReadsWordOperand.parity {op : State → Act State} (h : ReadsWordOperand m op) (hk : e.format ≠ .double)
    (hp : u.present e.word = true) (hq : u.seenBad e = true) :
    op s = .error (.trap .memoryParity (u.afterRead e)) := by
  obtain ⟨f, hf⟩ := h
  exact (hf s).trans (by simp [withWordOperand, he, hk, fetch_parity hp hq, bind, Except.bind])

theorem loadOp_absent (hp : u.present e.word = false) : loadOp r m s = .error (.trap .nonPresentMemory u) := by
  simp [loadOp, he, checkPresent_absent hp, bind, Except.bind]

theorem opTbm_absent (hp : u.present e.word = false) : opTbm n m s = .error (.trap .nonPresentMemory u) := by
  simp [opTbm, he, readByte_eq, bitByte, hp, bind, Except.bind]

theorem opTbm_parity (hp : u.present e.word = true) (hq : u.tick.parityBadAt e.word = true) :
    opTbm n m s = .error (.trap .memoryParity u.tick) := by
  simp [opTbm, he, readByte_eq, bitByte, hp, hq, bind, Except.bind]

theorem opExm_absent (hp : u.present e.word = false) : opExm m s = .error (.trap .nonPresentMemory u) := by
  simp [opExm, he, readWord_eq, hp, bind, Except.bind]

theorem opExm_parity (hp : u.present e.word = true) (hq : u.tick.parityBadAt e.word = true) :
    opExm m s = .error (.trap .memoryParity u.tick) := by
  simp [opExm, he, readWord_eq, hp, hq, bind, Except.bind]

theorem opLf_absent (hp : u.present e.word = false) : opLf r m s = .error (.trap .nonPresentMemory u) := by
  simp [opLf, he, checkPresent_absent hp, bind, Except.bind]

theorem addRegisterToMemoryOp_parity (hw : WriteOpen u e.word) (hq : u.seenBad e = true) :
    addRegisterToMemoryOp r m s = .error (.trap .memoryParity (u.afterRead e)) := by
  simp [addRegisterToMemoryOp, fetchForUpdate, he, (checkWrite_ok u e.word).2 hw, fetch_parity hw.1 hq, bind,
    Except.bind]

theorem changeBit_parity (hw : WriteOpen u e.word) (hq : u.tick.parityBadAt e.word = true) (f : Byte → Byte) :
    changeBit m n f s = .error (.trap .memoryParity u.tick) := by
  simp [changeBit, he, (checkWrite_ok u e.word).2 hw, readByte_eq, bitByte, hw.1, hq, bind, Except.bind]

theorem opAbm_parity (hw : WriteOpen u e.word) (hq : u.tick.parityBadAt e.word = true) :
    opAbm n m s = .error (.trap .memoryParity u.tick) := by
  simp [opAbm, he, (checkWrite_ok u e.word).2 hw, readWord_eq, hw.1, hq, bind, Except.bind]

variable (hopt : s.cfg.optFp = true) (f : {n : Nat} → BitVec n → BitVec n → FloatResult n)
include hopt

theorem floatOp_absentOperand (hc : e.c = 0#2 ∨ e.c = 2#2) (hp : u.present e.word = false) :
    floatOp f r m s = .error (.trap .nonPresentMemory u) := by
  obtain hc | hc := hc <;> simp [floatOp, hopt, he, hc, readWord_eq, hp, bind, Except.bind]

theorem floatOp_parity_word (hp : u.present e.word = true) (hc : e.c = 0#2) (hq : u.tick.parityBadAt e.word = true) :
    floatOp f r m s = .error (.trap .memoryParity u.tick) := by
  simp [floatOp, hopt, he, hc, readWord_eq, hp, hq, bind, Except.bind]

theorem floatOp_parity_odd (hp : u.present e.word = true) (hc : e.c = 2#2)
    (hq : u.tick.parityBadAt (oddWord e.word) = true) : floatOp f r m s = .error (.trap .memoryParity u.tick) := by
  simp [floatOp, hopt, he, hc, readWord_eq, hp, hq, bind, Except.bind]

theorem floatOp_parity_even (hp : u.present e.word = true) (hc : e.c = 2#2)
    (hodd : u.tick.parityBadAt (oddWord e.word) = false) (heven : u.tick.tick.parityBadAt (evenWord e.word) = true) :
    floatOp f r m s = .error (.trap .memoryParity u.tick.tick) := by
  have hp' : u.tick.present e.word = true := ((tick_bussed u).present _).trans hp
  simp [floatOp, hopt, he, hc, readWord_eq, hp, hp', hodd, heven, bind, Except.bind]

end Operand

/-- Settles O24: whatever the operand is for, its first cycle is checked first. -/
theorem absentOperandTraps : Obligations.AbsentOperandTraps := by
  intro s u r n m e he hp
  have he' := effAddr_ok_advance he 2#18
  have trap {op : State → Act State} (hop : op (s.advance 2#18) = .error (.trap .nonPresentMemory (u.advance 2#18))) :
      runWord op s = raise .nonPresentMemory 2#18 u := runWord_trap_bussed (effAddr_bussed he) hop
  refine ⟨fun i hi => ?_, fun hk i hi => ?_, fun hopt hc i hi => ?_⟩
  · have hwrites (hi : i ∈ operandWriters r m ++ memoryAdders r m ++ bitUpdaters n m) :
        exec i s = raise .nonPresentMemory 2#18 u := by
      obtain ⟨op, -, hop, hexec⟩ := exec_writer hi
      exact (hexec s).trans (runWord_checksWriteFirst hop he (checkWrite_absent hp))
    simp only [List.mem_append, List.mem_cons, List.not_mem_nil, or_false] at hi hwrites
    obtain ((((hi | hi) | hi) | hi) | hi) | rfl | rfl | rfl := hi
    · exact (exec_plainLoad hi s).trans (trap (loadOp_absent he' r hp))
    · obtain ⟨op, hop, hexec⟩ := exec_operandReader hi
      exact (hexec s).trans (trap (hop.absent he' hp))
    · exact hwrites (.inl (.inl hi))
    · exact hwrites (.inl (.inr hi))
    · exact hwrites (.inr hi)
    · exact trap (opTbm_absent he' n hp)
    · exact trap (opExm_absent he' hp)
    · exact trap (opLf_absent he' r hp)
  · obtain ⟨op, hop, hexec⟩ := exec_multiplyDivide hi
    exact (hexec s).trans (trap (hop.absent he' hk hp))
  · obtain ⟨f, hexec⟩ := exec_float hi
    exact (hexec s).trans (trap (floatOp_absentOperand he' r hopt f hc hp))

/-! ## Bad parity of an operand (60_exceptions.md R433, R434) -/

/-- What a load leaves with the program count put back: the registers and the condition code of the completed load. -/
theorem deliver_setPc {s v : State} (h : v.psw = s.psw) (len : BitVec 18) (r : Reg) (x : Wide) :
    let t := (v.advance len).deliver r false x
    t.setPc s.psw.pc = { v with regs := t.regs, psw := { s.psw with cc := t.psw.cc } } := by
  rw [← h]
  cases x <;> rfl

theorem exec_plainLoad_parity {s u : State} {m : MemRef} {e : Ea} (he : effAddr s m = .ok (e, u))
    (hp : u.present e.word = true) (hq : u.seenBad e = true) {i : Instr} {r : Reg} (hi : i ∈ plainLoads r m) :
    let t := (u.afterRead e).delivered 2#18 r (u.seen e).int (u.seen e).format
    exec i s = raise .memoryParity 2#18
      { u.afterRead e with regs := t.regs, psw := { s.psw with cc := t.psw.cc } } := by
  have hop := loadOp_parity (effAddr_ok_advance he 2#18) hp ((seenBad_advance u 2#18 e).trans hq) r
  have hpsw : (u.afterRead e).psw = s.psw := ((effAddr_bussed he).trans (afterRead_bussed u e)).psw
  rw [exec_plainLoad hi, runWord, hop, complete_trap, afterRead_advance, seen_advance, deliver_setPc hpsw,
    deliver_extend]

theorem exec_float_parity {s u : State} {m : MemRef} {e : Ea} (he : effAddr s m = .ok (e, u))
    (hp : u.present e.word = true) (hopt : s.cfg.optFp = true) {i : Instr} {r : Reg} (hi : i ∈ floats r m) :
    (e.c = 0#2 → u.tick.parityBadAt e.word = true → exec i s = raise .memoryParity 2#18 u.tick) ∧
    (e.c = 2#2 → u.tick.parityBadAt (oddWord e.word) = true → exec i s = raise .memoryParity 2#18 u.tick) ∧
    (e.c = 2#2 → u.tick.parityBadAt (oddWord e.word) = false →
      u.tick.tick.parityBadAt (evenWord e.word) = true → exec i s = raise .memoryParity 2#18 u.tick.tick) := by
  obtain ⟨f, hexec⟩ := exec_float hi
  have he' := effAddr_ok_advance he 2#18
  have hbus := effAddr_bussed he
  have hp' : (u.advance 2#18).present e.word = true := hp
  have hopt' : (s.advance 2#18).cfg.optFp = true := hopt
  rw [hexec]
  refine ⟨fun hc hq => ?_, fun hc hq => ?_, fun hc hodd heven => ?_⟩
  · refine runWord_trap_bussed hbus.tick ?_
    rw [← tick_advance]
    exact floatOp_parity_word he' r hopt' f hp' hc (by rw [tick_advance]; exact hq)
  · refine runWord_trap_bussed hbus.tick ?_
    rw [← tick_advance]
    exact floatOp_parity_odd he' r hopt' f hp' hc (by rw [tick_advance]; exact hq)
  · refine runWord_trap_bussed hbus.tick.tick ?_
    rw [← tick_advance, ← tick_advance]
    exact floatOp_parity_even he' r hopt' f hp' hc (by rw [tick_advance]; exact hodd)
      (by rw [tick_advance, tick_advance]; exact heven)

/-! ## A trap on an indirect address word (20_memory.md R66, R77) -/

theorem conditionTrue_eq (c : CC) (mask : Word) (d : BitVec 3) (m : MemRef) :
    conditionTrue c d = branchTaken c mask (.bct d m) := by
  obtain ⟨c1, c2, c3, c4⟩ := c
  simp only [branchTaken, conditionTrue]
  revert c1 c2 c3 c4 d
  decide

theorem not_conditionTrue_eq (c : CC) (mask : Word) (d : BitVec 3) (m : MemRef) :
    (!conditionTrue c d) = branchTaken c mask (.bcf d m) := by
  obtain ⟨c1, c2, c3, c4⟩ := c
  simp only [branchTaken, conditionTrue]
  revert c1 c2 c3 c4 d
  decide

theorem functionTrue_eq (c : CC) (mask : Word) (m : MemRef) : functionTrue mask c = branchTaken c mask (.bft m) := by
  have hbit : 32 - 1 - (16 + c.bits.toNat) =
      15 - (8 * c.cc1.toNat + 4 * c.cc2.toNat + 2 * c.cc3.toNat + c.cc4.toNat) := by
    obtain ⟨c1, c2, c3, c4⟩ := c
    revert c1 c2 c3 c4
    decide
  exact congrArg mask.getLsbD hbit

section Address

variable {s u : State} {m : MemRef} {x : Trap} (h : effAddr s m = .error (.trap x u))
include h

theorem effAddr_trap_advance (len : BitVec 18) : effAddr (s.advance len) m = .error (.trap x (u.advance len)) := by
  rw [effAddr_advance, h]; rfl

theorem runWord_formsAddress {op : State → Act State} (hop : FormsAddress m op) : runWord op s = raise x 2#18 u :=
  runWord_trap_bussed (effAddr_trap_bussed h) (hop _ _ (effAddr_trap_advance h 2#18))

/-- A branch that is taken. -/
theorem branchIf_addressTrap {c : State → Bool} (hc : c (s.advance 2#18) = true) :
    runWord (fun s => branchIf (c s) m s) s = raise x 2#18 u := by
  refine runWord_trap_bussed (effAddr_trap_bussed h) ?_
  rw [hc]
  exact branchIf_formsAddress m _ _ (effAddr_trap_advance h 2#18)

/-- An incrementing branch whose register does not become zero. -/
theorem branchIncrement_addressTrap {k : Word} {r : Reg} (hx : m.x = 0#2) (hk : s.reg r + k ≠ 0#32) :
    runWord (branchIncrement k r m) s = raise x 2#18 u := by
  have hm : { m with x := 0#2 } = m := by rw [← hx]
  have hk' : (s.advance 2#18).reg r + k ≠ 0#32 := hk
  refine runWord_trap_bussed (effAddr_trap_bussed h) ?_
  simp [branchIncrement, hk', hm, effAddr_trap_advance h, bind, Except.bind]

theorem opBri_addressTrap (hs : s.unprivileged = false) : runWord (opBri m) s = raise x 2#18 u := by
  have hs' : privilegedOnly (s.advance 2#18) = .ok () := (privilegedOnly_ok _).2 hs
  refine runWord_trap_bussed (effAddr_trap_bussed h) ?_
  simp [opBri, hs', effAddr_trap_advance h, bind, Except.bind]

theorem floatOp_addressTrap (hopt : s.cfg.optFp = true) (f : {n : Nat} → BitVec n → BitVec n → FloatResult n) (r : Reg) :
    runWord (floatOp f r m) s = raise x 2#18 u := by
  refine runWord_trap_bussed (effAddr_trap_bussed h) ?_
  simp [floatOp, hopt, effAddr_trap_advance h, bind, Except.bind]

end Address

/-- Settles O17: the operand's cycles trap in the state that they leave, and so does every way to the address. -/
theorem loadOperandParity : Obligations.LoadOperandParity := by
  intro s r n m
  constructor
  · intro e u he hp
    have he' := effAddr_ok_advance he 2#18
    have hbus := effAddr_bussed he
    have operandTrap {op : State → Act State}
        (hop : op (s.advance 2#18) = .error (.trap .memoryParity ((u.advance 2#18).afterRead e))) :
        runWord op s = raise .memoryParity 2#18 (u.afterRead e) :=
      runWord_trap_bussed (hbus.trans (afterRead_bussed u e)) (hop.trans (by rw [afterRead_advance]))
    have wordTrap {op : State → Act State}
        (hop : op (s.advance 2#18) = .error (.trap .memoryParity (u.advance 2#18).tick)) :
        runWord op s = raise .memoryParity 2#18 u.tick :=
      runWord_trap_bussed hbus.tick (hop.trans (by rw [tick_advance]))
    refine ⟨fun hq => ?operand, fun hq => ?word, fun hopt i hi => exec_float_parity he hp hopt hi⟩
    case operand =>
      have hq' := (seenBad_advance u 2#18 e).trans hq
      refine ⟨fun i hi => exec_plainLoad_parity he hp hq hi, fun i hi => ?_, fun hk i hi => ?_, fun hw i hi => ?_⟩
      · obtain ⟨op, hop, hexec⟩ := exec_operandReader hi
        exact (hexec s).trans (operandTrap (hop.parity he' hp hq'))
      · obtain ⟨op, hop, hexec⟩ := exec_multiplyDivide hi
        exact (hexec s).trans (operandTrap (hop.parity he' hk hp hq'))
      · exact (exec_memoryAdder hi s).trans (operandTrap (addRegisterToMemoryOp_parity he' r hw hq'))
    case word =>
      have hq' : (u.advance 2#18).tick.parityBadAt e.word = true := by rw [tick_advance]; exact hq
      refine ⟨fun i hi => ?_, fun hw i hi => ?_⟩
      · simp only [List.mem_cons, List.not_mem_nil, or_false] at hi
        rcases hi with rfl | rfl
        · exact wordTrap (opTbm_parity he' n hp hq')
        · exact wordTrap (opExm_parity he' hp hq')
      · simp only [bitUpdaters, List.mem_cons, List.not_mem_nil, or_false] at hi
        rcases hi with rfl | rfl | rfl
        · exact wordTrap (changeBit_parity he' n hw hq' _)
        · exact wordTrap (changeBit_parity he' n hw hq' _)
        · exact wordTrap (opAbm_parity he' n hw hq')
  · intro x u h
    refine ⟨fun i hi => ?_, fun hopt i hi => ?_, opBri_addressTrap h, fun d i hi hb => ?_, fun hx i hi hk => ?_⟩
    · obtain ⟨op, hop, hexec⟩ := exec_addressFormer hi
      exact (hexec s).trans (runWord_formsAddress h hop)
    · obtain ⟨f, hexec⟩ := exec_float hi
      exact (hexec s).trans (floatOp_addressTrap h hopt f r)
    · simp only [List.mem_cons, List.not_mem_nil, or_false] at hi
      rcases hi with rfl | rfl | rfl
      · exact branchIf_addressTrap h (c := fun s => conditionTrue s.psw.cc d) ((conditionTrue_eq ..).trans hb)
      · exact branchIf_addressTrap h (c := fun s => !conditionTrue s.psw.cc d) ((not_conditionTrue_eq ..).trans hb)
      · exact branchIf_addressTrap h (c := fun s => functionTrue s.mask s.psw.cc) ((functionTrue_eq ..).trans hb)
    · simp only [List.mem_cons, List.not_mem_nil, or_false] at hi
      rcases hi with rfl | rfl | rfl | rfl <;> exact branchIncrement_addressTrap h hx hk

end Sys2Proof.Machine

/-!
The AIOS (O58): one transfer under its Transfer Control Word, the order of several, and the bus between two cycles.
-/

namespace Sys2Proof.Machine

/-! ## The Transfer Control Word in the statement's terms (49_interrupt_io.md R426, R427) -/

section ControlWord

variable (w : Word)

theorem transferTarget_raw : (transferTarget w).raw = (controlEa w).raw :=
  (BitVec.setWidth_eq_extractLsb' (by decide)).symm

@[simp] theorem transferTarget_word : (transferTarget w).word = (controlEa w).word :=
  congrArg Addr.wordAddr (transferTarget_raw w)

theorem transferTarget_c : (transferTarget w).c = w.extractLsb' 0 2 :=
  BitVec.extractLsb'_extractLsb'_of_le (by decide)

theorem controlEa_c : (controlEa w).c =
    if (controlEa w).f = false ∧ (transferTarget w).c = 2#2 then 0#2 else (transferTarget w).c := by
  rw [transferTarget_c, controlEa]
  simp

/-- Code 010 counts as a word, and so there are no doublewords. -/
theorem controlEa_format_ne_double : (controlEa w).format ≠ .double := by
  rw [Ea.format, controlEa_c]
  generalize (controlEa w).f = f, (transferTarget w).c = c
  revert f c; decide

theorem transferFormat_eq : transferFormat w = (controlEa w).format := by
  have hf : (transferTarget w).f = (controlEa w).f := rfl
  rw [transferFormat, Ea.format, Ea.format, hf, controlEa_c]
  generalize (controlEa w).f = f, (transferTarget w).c = c
  revert f c; decide

/-- A unit of a byte or a halfword lies where the address field says. -/
theorem transferTarget_op (h : (controlEa w).format ≠ .word) : (transferTarget w).op = (controlEa w).op := by
  have hc : (controlEa w).c = (transferTarget w).c := by
    rw [controlEa_c] at *
    refine if_neg fun hword => h ?_
    rw [Ea.format, controlEa_c, if_pos hword, hword.1]; rfl
  exact congrArg₂ BitVec.append (transferTarget_word w) hc.symm

theorem transferStep_eq : transferStep w = BitVec.ofNat 19 (unitBytes (controlEa w).format) := by
  rw [transferStep, transferFormat_eq]
  cases (controlEa w).format <;> rfl

theorem transferCount_toNat : (transferCount w).toNat = w.toNat / 2 ^ 20 := by
  have := w.isLt
  rw [transferCount, BitVec.extractLsb'_toNat, Nat.shiftRight_eq_div_pow]
  omega

theorem transferCount_sub_one : transferCount w - 1#12 = BitVec.ofNat 12 (w.toNat / 2 ^ 20 + 4095) := by
  apply BitVec.eq_of_toNat_eq
  simp only [BitVec.toNat_sub, transferCount_toNat, BitVec.toNat_ofNat]
  omega

theorem nextControlWord_eq : nextControlWord w = advancedControl w := by
  have haddr : w.extractLsb' 0 19 + transferStep w =
      BitVec.ofNat 19 (w.toNat + unitBytes (controlEa w).format) := by
    rw [transferStep_eq, BitVec.ofNat_add, BitVec.ofNat_toNat, BitVec.setWidth_eq_extractLsb' (by decide)]
  rw [nextControlWord, advancedControl, haddr, ← transferCount_sub_one, transferCount]

theorem transferCount_nextControlWord : transferCount (nextControlWord w) = transferCount w - 1#12 := by
  unfold transferCount nextControlWord
  ext i hi
  grind

/-- The count ends exactly when it was one. -/
theorem transferCount_eq_zero_iff : transferCount (nextControlWord w) = 0#12 ↔ blockGoesOn w = false := by
  have := w.isLt
  rw [transferCount_nextControlWord, ← BitVec.toNat_inj, BitVec.toNat_sub, transferCount_toNat, blockGoesOn,
    decide_eq_false_iff_not, not_not]
  simp only [BitVec.toNat_ofNat]
  omega

end ControlWord

/-! ## One datum (49_interrupt_io.md R425) -/

theorem wordAt_setWord_ne (s : State) {w x : WordAddr} (v : Word) (h : x ≠ w) :
    (s.setWord w v).wordAt x = s.wordAt x := by
  have hbyte : ∀ c : BitVec 2, (s.setWord w v).byteAt (x ++ c) = s.byteAt (x ++ c) := fun c =>
    byteAt_setWord_ne s w v _ (by rwa [wordAddr_append])
  simp only [State.wordAt, hbyte]

/-- A unit that lies in another word reads as before. -/
theorem datum_setWord_ne (s : State) {w : WordAddr} (v : Word) {e : Ea} (hf : e.format ≠ .double) (h : e.word ≠ w) :
    (s.setWord w v).datum e = s.datum e := by
  have hbyte : ∀ a : Addr, a.wordAddr = e.word → (s.setWord w v).byteAt a = s.byteAt a := fun a ha =>
    byteAt_setWord_ne s w v a (ha ▸ h)
  have hhalf : ∀ n : BitVec 1, (halfByteAddr e.op n).wordAddr = e.word := fun n =>
    (wordAddr_eq_of_half (halfByteAddr_half e.op n)).trans (wordAddr_op e)
  cases hfmt : e.format with
  | byte => simp only [State.datum, hfmt, hbyte _ (wordAddr_op e)]
  | half => simp only [State.datum, hfmt, State.halfAt, hbyte _ (hhalf _)]
  | word => simp only [State.datum, hfmt, wordAt_setWord_ne s v h]
  | double => exact absurd hfmt hf

theorem stored_transferIn (s : State) (w data : Word) :
    Stored s (s.transferIn w data) (controlEa w) (unitOf data (controlEa w).format) := by
  have hfmt := transferFormat_eq w
  have hop := transferTarget_op w
  cases h : (controlEa w).format with
  | byte =>
    simp only [State.transferIn, hfmt, h, hop (h ▸ by decide), unitOf]
    exact stored_setByte s h _
  | half =>
    simp only [State.transferIn, hfmt, h, hop (h ▸ by decide), unitOf]
    exact stored_setHalf s h _
  | word =>
    simp only [State.transferIn, hfmt, h, transferTarget_word]
    exact stored_setWord s h _
  | double => exact absurd h (controlEa_format_ne_double w)

theorem transferOut_eq (s : State) (w : Word) : s.transferOut w = (s.datum (controlEa w)).rightJustified := by
  have hfmt := transferFormat_eq w
  have hop := transferTarget_op w
  cases h : (controlEa w).format with
  | byte => simp only [State.transferOut, State.datum, hfmt, h, hop (h ▸ by decide), Datum.rightJustified]
  | half => simp only [State.transferOut, State.datum, hfmt, h, hop (h ▸ by decide), Datum.rightJustified]
  | word => simp only [State.transferOut, State.datum, hfmt, h, transferTarget_word, Datum.rightJustified]
  | double => exact absurd h (controlEa_format_ne_double w)

/-- Port 1 lets the AIOS move a datum in this direction under the Transfer Control Word. -/
def State.mayMove (s : State) (dir : Direction) (w : Word) : Bool :=
  if dir = .input then s.ioWritable (controlEa w).word else s.ioPresent (controlEa w).word

/-- The transfer puts a datum into memory. -/
def State.storesDatum (s : State) (dir : Direction) (w : Word) : Bool := decide (dir = .input) && s.mayMove dir w

/-- Memory after the datum. -/
def State.received (s : State) (dir : Direction) (w data : Word) : State :=
  if s.storesDatum dir w then s.transferIn w data else s

/-- The channel after the datum. -/
def State.served (s : State) (c : Channel) (dir : Direction) (w : Word) : Channel :=
  let fetched := decide (dir = .output) && s.mayMove dir w
  { c with
    data := if fetched then (s.datum (controlEa w)).rightJustified else c.data
    parityError := c.parityError || (fetched && s.parityBadAt (controlEa w).word)
    illegalAccess := c.illegalAccess || !s.mayMove dir w }

theorem moveDatum_eq (s : State) (k : Fin 16) (c : Channel) (dir : Direction) (w : Word) :
    s.moveDatum k c dir w = (s.received dir w c.data).setChannel k (s.served c dir w) := by
  cases dir with
  | input =>
    cases h : s.ioWritable (controlEa w).word <;>
      simp [State.moveDatum, State.received, State.storesDatum, State.served, State.mayMove, h]
  | output =>
    cases h : s.ioPresent (controlEa w).word <;>
      simp [State.moveDatum, State.received, State.storesDatum, State.served, State.mayMove, h, transferOut_eq]

theorem received_bus (s : State) (dir : Direction) (w data : Word) : BusOnly s (s.received dir w data) := by
  unfold State.received
  split
  · exact transferIn_bus s w data
  · exact .refl s

theorem received_frame (s : State) (dir : Direction) (w data : Word) :
    s.received dir w data =
      { s with mem := (s.received dir w data).mem, parityBad := (s.received dir w data).parityBad } := by
  unfold State.received
  split
  · exact (stored_transferIn s w data).1
  · rfl

theorem received_setChannel (s : State) (k : Fin 16) (c : Channel) (dir : Direction) (w data : Word) :
    (s.setChannel k c).received dir w data = (s.received dir w data).setChannel k c := by
  have h : (s.setChannel k c).storesDatum dir w = s.storesDatum dir w := rfl
  unfold State.received
  rw [h]
  split
  · unfold State.transferIn; dsimp only; split <;> rfl
  · rfl

/-! ## Port 1 and the bus (20_memory.md R76) -/

theorem ioPresent_of_bus {s t : State} (h : BusOnly s t) (w : WordAddr) : t.ioPresent w = s.ioPresent w := by
  rw [h]; rfl

theorem ioWritable_of_bus {s t : State} (h : BusOnly s t) (w : WordAddr) : t.ioWritable w = s.ioWritable w := by
  rw [h]; rfl

theorem cfg_of_bus {s t : State} (h : BusOnly s t) : t.cfg = s.cfg := by rw [h]

/-! ## One channel of the sixteen -/

theorem channels_setChannel_same (s : State) (k : Fin 16) (c : Channel) : (s.setChannel k c).channels[k] = c := by
  simp

theorem channels_setChannel_ne (s : State) {k j : Fin 16} (c : Channel) (h : j ≠ k) :
    (s.setChannel k c).channels[j] = s.channels[j] := by
  have : (k : Nat) ≠ j := fun e => h (Fin.ext e.symm)
  simp [this]

@[simp] theorem setChannel_setChannel (s : State) (k : Fin 16) (c c' : Channel) :
    (s.setChannel k c).setChannel k c' = s.setChannel k c' := by
  simp [State.setChannel]

theorem setWord_setChannel (s : State) (k : Fin 16) (c : Channel) (d : WordAddr) (v : Word) :
    (s.setChannel k c).setWord d v = (s.setWord d v).setChannel k c := rfl

theorem loadControlWord_setChannel (s : State) (k : Fin 16) (c c' : Channel) :
    (s.setChannel k c).loadControlWord k c' = s.loadControlWord k c' := rfl

theorem served_setChannel (s : State) (k : Fin 16) (c c' : Channel) (dir : Direction) (w : Word) :
    (s.setChannel k c).served c' dir w = s.served c' dir w := rfl

/-! ## The cycles of one transfer (49_interrupt_io.md R425, R427 to R429) -/

/-- A signal that is made only on a condition. -/
def State.signalIf (s : State) (q : Bool) (n : Level) : State := if q then s.signal n else s

/-- The end of a block whose channel is `c`. -/
theorem endOfBlock_setChannel (s : State) (k : Fin 16) (c : Channel) :
    (s.setChannel k c).endOfBlock k =
      (s.setChannel k (if c.autoReinit then (if s.cfg.channels[k].highPriority then s.loadControlWord k c else c)
        else { c with busy := false, serviceOwed := true })).signalIf c.autoReinit (serviceLevel k) := by
  simp only [State.endOfBlock, channels_setChannel_same, State.setChannel_cfg, loadControlWord_setChannel,
    setChannel_setChannel, State.signalIf]
  cases c.autoReinit <;> rfl

/-- What a data cycle makes of the channel, before what ends a block. -/
theorem dataCycle_eq (s : State) (k : Fin 16) (dir : Direction) (w : Word) :
    dataCycle s k dir w =
      let c := { s.channels[k] with transfer := none }
      let t := s.received dir w c.data
      let c' := s.served c dir w
      if blockGoesOn w then
        t.setChannel k (if s.cfg.channels[k].highPriority then { c' with tcw := advancedControl w }
          else { c' with transfer := some (.moved (advancedControl w)) })
      else (t.setChannel k c').endOfBlock k := by
  unfold dataCycle
  dsimp only
  rw [moveDatum_eq]
  cases hmore : blockGoesOn w
  · rw [if_pos ((transferCount_eq_zero_iff w).2 hmore)]; rfl
  · rw [if_neg (by rw [transferCount_eq_zero_iff, hmore]; decide), nextControlWord_eq, channels_setChannel_same,
      setChannel_setChannel, setChannel_setChannel]
    cases s.cfg.channels[k].highPriority <;> rfl

theorem transferCycle_none {s : State} {k : Fin 16} (h : s.channels[k].transfer = none) : transferCycle s k = s := by
  rw [transferCycle, h]

theorem transferCycle_high {s : State} {k : Fin 16} {dir : Direction}
    (h : s.channels[k].transfer = some (.requested dir)) (hhigh : s.cfg.channels[k].highPriority = true) :
    transferCycle s k = dataCycle s k dir s.channels[k].tcw := by
  rw [transferCycle, h, hhigh]; rfl

theorem transferCycle_low {s : State} {k : Fin 16} {dir : Direction}
    (h : s.channels[k].transfer = some (.requested dir)) (hlow : s.cfg.channels[k].highPriority = false) :
    transferCycle s k = controlCycle s k dir := by
  rw [transferCycle, h, hlow]; rfl

theorem transferCycle_located {s : State} {k : Fin 16} {dir : Direction} {w : Word}
    (h : s.channels[k].transfer = some (.located dir w)) : transferCycle s k = dataCycle s k dir w := by
  rw [transferCycle, h]

theorem transferCycle_moved {s : State} {k : Fin 16} {w : Word}
    (h : s.channels[k].transfer = some (.moved w)) : transferCycle s k = writeBackCycle s k w := by
  rw [transferCycle, h]

@[simp] theorem signal_channels (s : State) (n : Level) : (s.signal n).channels = s.channels := by
  unfold State.signal; split <;> rfl

@[simp] theorem signal_mem (s : State) (n : Level) : (s.signal n).mem = s.mem := by
  unfold State.signal; split <;> rfl

@[simp] theorem signal_parityBad (s : State) (n : Level) : (s.signal n).parityBad = s.parityBad := by
  unfold State.signal; split <;> rfl

@[simp] theorem signalIf_channels (s : State) (q : Bool) (n : Level) : (s.signalIf q n).channels = s.channels := by
  cases q
  · rfl
  · exact signal_channels s n

@[simp] theorem signalIf_mem (s : State) (q : Bool) (n : Level) : (s.signalIf q n).mem = s.mem := by
  cases q
  · rfl
  · exact signal_mem s n

@[simp] theorem signalIf_parityBad (s : State) (q : Bool) (n : Level) : (s.signalIf q n).parityBad = s.parityBad := by
  cases q
  · rfl
  · exact signal_parityBad s n

/-- The request latches after a signal. -/
theorem hasLevel_signal (s : State) (n m : Level) : hasLevel (s.signal n).request m =
    (hasLevel s.request m || (hasLevel s.cfg.levelsPresent m && decide (m = n))) := by
  unfold State.signal State.levelPresent
  by_cases hm : m = n
  · subst hm
    cases hp : hasLevel s.cfg.levelsPresent m <;> simp [State.requestLevel]
  · split <;> simp [State.requestLevel, hm]

theorem hasLevel_signalIf (s : State) (q : Bool) (n m : Level) : hasLevel (s.signalIf q n).request m =
    (hasLevel s.request m || (q && hasLevel s.cfg.levelsPresent m && decide (m = n))) := by
  cases q
  · simp [State.signalIf]
  · exact hasLevel_signal s n m

theorem eq_serviceLevel_iff (n : Level) (k : Fin 16) : n = serviceLevel k ↔ n.toNat = 0x14 + k.val := by
  rw [serviceLevel, ← BitVec.toNat_inj, BitVec.toNat_ofNat, Nat.mod_eq_of_lt (by omega)]

/-- The Transfer Control Word goes back to its dedicated location. -/
def State.writesBack (s : State) (k : Fin 16) (w : Word) : Bool :=
  !s.cfg.channels[k].highPriority && blockGoesOn w && s.ioWritable (controlWordAddr k)

/-- Memory after a whole transfer. -/
def State.transferred (s : State) (k : Fin 16) (dir : Direction) (w : Word) : State :=
  let t := s.received dir w s.channels[k].data
  if s.writesBack k w then t.setWord (controlWordAddr k) (advancedControl w) else t

/-- The channel after a whole transfer: in the statement's terms, the dedicated location read in `t`. -/
def State.transferredChannel (s t : State) (k : Fin 16) (dir : Direction) (w : Word) : Channel :=
  let c := s.channels[k]
  let d := controlWordAddr k
  let high := s.cfg.channels[k].highPriority
  let more := blockGoesOn w
  let reload := high && !more && c.autoReinit
  let fetched := decide (dir = .output) && s.mayMove dir w
  { c with
    transfer := none
    busy := c.busy && (more || c.autoReinit)
    serviceOwed := c.serviceOwed || (!more && !c.autoReinit)
    data := if fetched then (s.datum (controlEa w)).rightJustified else c.data
    tcw := if high && more then advancedControl w else if reload && s.ioPresent d then t.wordAt d else c.tcw
    parityError := c.parityError || (!high && s.parityBadAt d) || (fetched && s.parityBadAt (controlEa w).word) ||
      (reload && s.ioPresent d && t.parityBadAt d)
    illegalAccess := c.illegalAccess || !s.mayMove dir w || (!high && more && !s.ioWritable d) ||
      (reload && !s.ioPresent d) }

/-- The state after a whole transfer. -/
def State.answered (s : State) (k : Fin 16) (dir : Direction) (w : Word) : State :=
  ((s.transferred k dir w).setChannel k (s.transferredChannel (s.transferred k dir w) k dir w)).signalIf
    (!blockGoesOn w && s.channels[k].autoReinit) (serviceLevel k)

/-- The control word under which a channel's transfer is made. -/
def State.controlWord (s : State) (k : Fin 16) : Word :=
  if s.cfg.channels[k].highPriority then s.channels[k].tcw else s.wordAt (controlWordAddr k)

theorem processTransfer_of_none {s : State} {k : Fin 16} (h : (transferCycle s k).channels[k].transfer = none) :
    processTransfer s k = transferCycle s k := by
  rw [processTransfer, transferCycle_none h, transferCycle_none h]

/-- A high-priority channel makes its transfer in one cycle. -/
theorem processTransfer_high {s : State} {k : Fin 16} {dir : Direction}
    (h : s.channels[k].transfer = some (.requested dir)) (hhigh : s.cfg.channels[k].highPriority = true) :
    processTransfer s k = s.answered k dir s.channels[k].tcw := by
  have hbus := received_bus s dir s.channels[k].tcw s.channels[k].data
  have hp := ioPresent_of_bus hbus (controlWordAddr k)
  have hcycle : transferCycle s k = s.answered k dir s.channels[k].tcw := by
    rw [transferCycle_high h hhigh, dataCycle_eq]
    dsimp only
    cases hmore : blockGoesOn s.channels[k].tcw
    · cases hauto : s.channels[k].autoReinit <;> cases hd : s.ioPresent (controlWordAddr k) <;>
        simp [endOfBlock_setChannel, State.answered, State.transferred, State.transferredChannel, State.writesBack,
          State.served, State.loadControlWord, hmore, hhigh, hp, hauto, hd, cfg_of_bus hbus, -Fin.getElem_fin]
    · simp [State.answered, State.transferred, State.transferredChannel, State.writesBack, State.served,
        State.signalIf, hmore, hhigh, -Fin.getElem_fin]
  have hdone : (s.answered k dir s.channels[k].tcw).channels[k].transfer = none := by
    simp [State.answered, State.transferredChannel]
  rw [processTransfer_of_none (by rw [hcycle, hdone]), hcycle]

/-- The channel of a low-priority transfer once its Transfer Control Word is read. -/
def State.locatedChannel (s : State) (k : Fin 16) (dir : Direction) : Channel :=
  { s.channels[k] with
    transfer := some (.located dir (s.wordAt (controlWordAddr k)))
    parityError := s.channels[k].parityError || s.parityBadAt (controlWordAddr k) }

/-- The end of a block leaves what the transfer has come to. -/
theorem transfer_endOfBlock (s : State) (k : Fin 16) :
    (s.endOfBlock k).channels[k].transfer = s.channels[k].transfer := by
  unfold State.endOfBlock
  dsimp only
  split
  · simp only [signal_channels, channels_setChannel_same]
    split
    · unfold State.loadControlWord; dsimp only; split <;> rfl
    · rfl
  · rw [channels_setChannel_same]

theorem ioWritable_setChannel (s : State) (k : Fin 16) (c : Channel) (w : WordAddr) :
    (s.setChannel k c).ioWritable w = s.ioWritable w := rfl

section LowPriority

variable {s : State} {k : Fin 16} {dir : Direction} (h : s.channels[k].transfer = some (.requested dir))
  (hlow : s.cfg.channels[k].highPriority = false)
include h hlow

theorem transferCycle_controlWord (hd : s.ioPresent (controlWordAddr k) = true) :
    transferCycle s k = s.setChannel k (s.locatedChannel k dir) := by
  rw [transferCycle_low h hlow, controlCycle, if_pos hd]; rfl

/-- Without access to the dedicated location the transfer ends there. -/
theorem processTransfer_refused (hd : s.ioPresent (controlWordAddr k) = false) :
    processTransfer s k = s.setChannel k { s.channels[k] with transfer := none, illegalAccess := true } := by
  have hcycle : transferCycle s k = s.setChannel k { s.channels[k] with transfer := none, illegalAccess := true } := by
    rw [transferCycle_low h hlow, controlCycle, if_neg (by rw [hd]; decide)]
  rw [processTransfer_of_none (by rw [hcycle, channels_setChannel_same]), hcycle]

/-- A low-priority channel reads its Transfer Control Word, moves the datum and, unless the count ends, writes the word
back. -/
theorem processTransfer_low (hd : s.ioPresent (controlWordAddr k) = true) :
    processTransfer s k = s.answered k dir (s.wordAt (controlWordAddr k)) := by
  have hlocated : (s.setChannel k (s.locatedChannel k dir)).channels[k].transfer =
      some (.located dir (s.wordAt (controlWordAddr k))) := by rw [channels_setChannel_same]; rfl
  rw [processTransfer, transferCycle_controlWord h hlow hd, transferCycle_located hlocated, dataCycle_eq]
  generalize hw : s.wordAt (controlWordAddr k) = w
  have hbus := received_bus s dir w s.channels[k].data
  have hwrite := ioWritable_of_bus hbus (controlWordAddr k)
  simp only [received_setChannel, served_setChannel, setChannel_setChannel, channels_setChannel_same,
    State.setChannel_cfg, hlow]
  cases hmore : blockGoesOn w
  · simp only [Bool.false_eq_true, if_false]
    rw [transferCycle_none (by rw [transfer_endOfBlock, channels_setChannel_same]; rfl), endOfBlock_setChannel]
    cases hauto : s.channels[k].autoReinit <;>
      simp [State.answered, State.transferred, State.transferredChannel, State.writesBack, State.locatedChannel,
        State.served, hmore, hlow, hauto, cfg_of_bus hbus, -Fin.getElem_fin]
  · simp only [if_true, Bool.false_eq_true, if_false]
    rw [transferCycle_moved (w := advancedControl w)]
    · cases hwr : s.ioWritable (controlWordAddr k) <;>
        simp [writeBackCycle, State.answered, State.transferred, State.transferredChannel, State.writesBack,
          State.locatedChannel, State.served, State.signalIf, hmore, hlow, hwr, hwrite, ioWritable_setChannel,
          setWord_setChannel, channels_setChannel_same, -Fin.getElem_fin, -State.setChannel_channels]
    · rw [channels_setChannel_same]

end LowPriority

/-! ## What a transfer leaves in memory (49_interrupt_io.md R425, R427) -/

section Transferred

variable (s : State) (k : Fin 16) (dir : Direction) (w : Word)

theorem received_stored (data : Word) (h : s.storesDatum dir w = true) :
    Stored s (s.received dir w data) (controlEa w) (unitOf data (controlEa w).format) := by
  rw [State.received, if_pos h]
  exact stored_transferIn s w data

theorem received_of_not_stored (data : Word) (h : s.storesDatum dir w = false) : s.received dir w data = s := by
  rw [State.received, h]; rfl

theorem byteAt_received (data : Word) {a : Addr} (h : s.storesDatum dir w = false ∨ covers (controlEa w) a = false) :
    (s.received dir w data).byteAt a = s.byteAt a := by
  cases hst : s.storesDatum dir w
  · rw [received_of_not_stored s dir w data hst]
  · obtain ⟨-, -, hbytes, -⟩ := received_stored s dir w data hst
    exact hbytes a (h.resolve_left (by rw [hst]; decide))

theorem parityBadAt_received (data : Word) (x : WordAddr) : (s.received dir w data).parityBadAt x =
    (s.parityBadAt x && !(s.storesDatum dir w && coversWord (controlEa w) x)) := by
  cases hst : s.storesDatum dir w
  · simp [received_of_not_stored s dir w data hst]
  · obtain ⟨-, -, -, hparity⟩ := received_stored s dir w data hst
    exact hparity x

theorem datum_transferred (hst : s.storesDatum dir w = true)
    (hne : (controlEa w).word ≠ controlWordAddr k ∨ s.writesBack k w = false) :
    (s.transferred k dir w).datum (controlEa w) = unitOf s.channels[k].data (controlEa w).format := by
  obtain ⟨-, hdatum, -, -⟩ := received_stored s dir w s.channels[k].data hst
  cases hback : s.writesBack k w
  · simp only [State.transferred, hback, Bool.false_eq_true, if_false, hdatum]
  · simp only [State.transferred, hback, if_true]
    rw [datum_setWord_ne _ _ (controlEa_format_ne_double w) (hne.resolve_right (by rw [hback]; decide)), hdatum]

theorem wordAt_transferred (hback : s.writesBack k w = true) :
    (s.transferred k dir w).wordAt (controlWordAddr k) = advancedControl w := by
  simp only [State.transferred, hback, if_true, wordAt_setWord_same]

theorem byteAt_transferred {a : Addr} (hst : s.storesDatum dir w = false ∨ covers (controlEa w) a = false)
    (hne : s.writesBack k w = false ∨ a.wordAddr ≠ controlWordAddr k) :
    (s.transferred k dir w).byteAt a = s.byteAt a := by
  have hbyte := byteAt_received s dir w s.channels[k].data hst
  cases hback : s.writesBack k w
  · simp only [State.transferred, hback, Bool.false_eq_true, if_false, hbyte]
  · simp only [State.transferred, hback, if_true]
    rw [byteAt_setWord_ne _ _ _ _ (hne.resolve_left (by rw [hback]; decide)), hbyte]

theorem parityBadAt_transferred (x : WordAddr) : (s.transferred k dir w).parityBadAt x =
    (s.parityBadAt x && !(s.storesDatum dir w && coversWord (controlEa w) x) &&
      !(s.writesBack k w && x == controlWordAddr k)) := by
  have hparity := parityBadAt_received s dir w s.channels[k].data x
  cases hback : s.writesBack k w
  · simp only [State.transferred, hback, Bool.false_eq_true, if_false, hparity, Bool.false_and, Bool.not_false,
      Bool.and_true]
  · simp only [State.transferred, hback, if_true, parityBadAt_setWord, hparity, bne, Bool.true_and]

theorem transferred_frame : s.transferred k dir w =
    { s with mem := (s.transferred k dir w).mem, parityBad := (s.transferred k dir w).parityBad } := by
  have h := received_frame s dir w s.channels[k].data
  unfold State.transferred
  dsimp only
  split
  · rw [h]; rfl
  · exact h

end Transferred

/-! ## The other channels -/

section OtherChannels

variable {k j : Fin 16} (hne : j ≠ k)
include hne

theorem moveDatum_other (s : State) (c : Channel) (dir : Direction) (w : Word) :
    (s.moveDatum k c dir w).channels[j] = s.channels[j] := by
  have h : (s.received dir w c.data).channels = s.channels := by rw [received_frame]
  simp only [moveDatum_eq, channels_setChannel_ne _ _ hne, h]

theorem endOfBlock_other (s : State) : (s.endOfBlock k).channels[j] = s.channels[j] := by
  unfold State.endOfBlock
  dsimp only
  split <;> simp only [signal_channels, channels_setChannel_ne _ _ hne]

theorem dataCycle_other (s : State) (dir : Direction) (w : Word) :
    (dataCycle s k dir w).channels[j] = s.channels[j] := by
  unfold dataCycle
  dsimp only
  split
  · rw [endOfBlock_other hne, moveDatum_other hne]
  · split <;> rw [channels_setChannel_ne _ _ hne, moveDatum_other hne]

theorem transferCycle_other (s : State) : (transferCycle s k).channels[j] = s.channels[j] := by
  unfold transferCycle
  split
  · rfl
  · split
    · exact dataCycle_other hne _ _ _
    · unfold controlCycle; dsimp only; split <;> exact channels_setChannel_ne _ _ hne
  · exact dataCycle_other hne _ _ _
  · unfold writeBackCycle; dsimp only; split <;> exact channels_setChannel_ne _ _ hne

theorem processTransfer_other (s : State) : (processTransfer s k).channels[j] = s.channels[j] := by
  simp only [processTransfer, transferCycle_other hne]

end OtherChannels

/-! ## The events listed for later cycles -/

section Within

variable (s : State) (k : Fin 16) (r : List (List BusEvent))

theorem received_within (dir : Direction) (w data : Word) :
    { s with within := r }.received dir w data = { s.received dir w data with within := r } := by
  have h : { s with within := r }.storesDatum dir w = s.storesDatum dir w := rfl
  unfold State.received
  rw [h]
  split
  · unfold State.transferIn; dsimp only; split <;> rfl
  · rfl

theorem signal_within (n : Level) : { s with within := r }.signal n = { s.signal n with within := r } := by
  have h : { s with within := r }.levelPresent n = s.levelPresent n := rfl
  unfold State.signal
  rw [h]
  split <;> rfl

theorem endOfBlock_within : { s with within := r }.endOfBlock k = { s.endOfBlock k with within := r } := by
  unfold State.endOfBlock
  dsimp only
  split
  · exact signal_within (s.setChannel k _) r _
  · rfl

theorem moveDatum_within (c : Channel) (dir : Direction) (w : Word) :
    { s with within := r }.moveDatum k c dir w = { s.moveDatum k c dir w with within := r } := by
  rw [moveDatum_eq, received_within, moveDatum_eq]; rfl

theorem dataCycle_within (dir : Direction) (w : Word) :
    dataCycle { s with within := r } k dir w = { dataCycle s k dir w with within := r } := by
  unfold dataCycle
  dsimp only
  rw [moveDatum_within]
  split
  · exact endOfBlock_within _ _ _
  · split <;> rfl

/-- A cycle takes no notice of what is listed for later ones. -/
theorem transferCycle_within : transferCycle { s with within := r } k = { transferCycle s k with within := r } := by
  have hp : ∀ w, { s with within := r }.ioPresent w = s.ioPresent w := fun _ => rfl
  have hw : ∀ w, { s with within := r }.ioWritable w = s.ioWritable w := fun _ => rfl
  unfold transferCycle
  dsimp only
  split
  · rfl
  · split
    · exact dataCycle_within _ _ _ _ _
    · unfold controlCycle; dsimp only; rw [hp]; split <;> rfl
  · exact dataCycle_within _ _ _ _ _
  · unfold writeBackCycle; dsimp only; rw [hw]; split <;> rfl

theorem transferCycle_keeps_within : (transferCycle s k).within = s.within := by
  have h := congrArg State.within (transferCycle_within s k s.within)
  exact h

theorem processTransfer_frame : processTransfer s k =
    { s with
      mem := (processTransfer s k).mem
      parityBad := (processTransfer s k).parityBad
      channels := (processTransfer s k).channels
      request := (processTransfer s k).request } := by
  have hw : (processTransfer s k).within = s.within := by
    simp only [processTransfer, transferCycle_keeps_within]
  exact hw ▸ processTransfer_bus s k

end Within

/-! ## A whole transfer -/

/-- What a channel with access to its Transfer Control Word makes of a pending transfer interrupt, in one state. -/
theorem processTransfer_eq {s : State} {k : Fin 16} {dir : Direction}
    (h : s.channels[k].transfer = some (.requested dir))
    (hd : s.cfg.channels[k].highPriority = true ∨ s.ioPresent (controlWordAddr k) = true) :
    processTransfer s k = s.answered k dir (s.controlWord k) := by
  cases hp : s.cfg.channels[k].highPriority
  · have hw : s.controlWord k = s.wordAt (controlWordAddr k) := by rw [State.controlWord, hp]; rfl
    rw [hw]
    exact processTransfer_low h hp (hd.resolve_left (by rw [hp]; decide))
  · have hw : s.controlWord k = s.channels[k].tcw := by rw [State.controlWord, hp]; rfl
    rw [hw]
    exact processTransfer_high h hp

theorem mem_answered (s : State) (k : Fin 16) (dir : Direction) (w : Word) :
    (s.answered k dir w).mem = (s.transferred k dir w).mem :=
  signalIf_mem _ _ _

theorem parityBad_answered (s : State) (k : Fin 16) (dir : Direction) (w : Word) :
    (s.answered k dir w).parityBad = (s.transferred k dir w).parityBad :=
  signalIf_parityBad _ _ _

theorem channel_answered (s : State) (k : Fin 16) (dir : Direction) (w : Word) :
    (s.answered k dir w).channels[k] = s.transferredChannel (s.transferred k dir w) k dir w := by
  simp only [State.answered, signalIf_channels, channels_setChannel_same]

/-- The service interrupt requests after a transfer. -/
theorem hasLevel_answered (s : State) (k : Fin 16) (dir : Direction) (w : Word) (n : Level) :
    hasLevel (s.answered k dir w).request n = (hasLevel s.request n ||
      (!blockGoesOn w && s.channels[k].autoReinit && hasLevel s.cfg.levelsPresent n &&
        decide (n.toNat = 0x14 + k.val))) := by
  rw [State.answered, hasLevel_signalIf, State.setChannel_request, State.setChannel_cfg, transferred_frame]
  simp only [eq_serviceLevel_iff]

theorem byteAt_of_mem {s t : State} (h : s.mem = t.mem) : s.byteAt = t.byteAt := by
  unfold State.byteAt; rw [h]

theorem wordAt_of_mem {s t : State} (h : s.mem = t.mem) : s.wordAt = t.wordAt := by
  unfold State.wordAt; rw [byteAt_of_mem h]

theorem datum_of_mem {s t : State} (h : s.mem = t.mem) : s.datum = t.datum := by
  unfold State.datum State.halfAt State.doubleAt; rw [byteAt_of_mem h, wordAt_of_mem h]

theorem parityBadAt_of_list {s t : State} (h : s.parityBad = t.parityBad) : s.parityBadAt = t.parityBadAt := by
  unfold State.parityBadAt; rw [h]

/-! ## The order of several transfers (49_interrupt_io.md R425, 60_exceptions.md R451) -/

theorem mem_orderInsert (s : State) (k i : Fin 16) (l : List (Fin 16)) :
    i ∈ orderInsert s k l ↔ i = k ∨ i ∈ l := by
  induction l with
  | nil => simp [orderInsert]
  | cons j t ih =>
    unfold orderInsert
    split
    · simp
    · simp only [List.mem_cons, ih]; tauto

/-- The channel `k` does not come after `j`. -/
def State.notAfter (s : State) (k j : Fin 16) : Prop :=
  s.cfg.channels[k].siActual.toNat ≤ s.cfg.channels[j].siActual.toNat

theorem sorted_orderInsert (s : State) (k : Fin 16) {l : List (Fin 16)} (h : l.Pairwise s.notAfter) :
    (orderInsert s k l).Pairwise s.notAfter := by
  induction l with
  | nil => simp [orderInsert]
  | cons j t ih =>
    obtain ⟨hj, ht⟩ := List.pairwise_cons.1 h
    unfold orderInsert
    split
    case isTrue hle =>
      refine List.pairwise_cons.2 ⟨fun i hi => ?_, h⟩
      rcases List.mem_cons.1 hi with rfl | hi
      · exact hle
      · exact Nat.le_trans hle (hj i hi)
    case isFalse hgt =>
      refine List.pairwise_cons.2 ⟨fun i hi => ?_, ih ht⟩
      rcases (mem_orderInsert s k i t).1 hi with rfl | hi
      · exact Nat.le_of_not_le hgt
      · exact hj i hi

theorem mem_foldr_orderInsert (s : State) (i : Fin 16) (l : List (Fin 16)) :
    i ∈ l.foldr (orderInsert s) [] ↔ i ∈ l := by
  induction l with
  | nil => rfl
  | cons j t ih => rw [List.foldr_cons, mem_orderInsert, ih, List.mem_cons]

theorem mem_allChannels (k : Fin 16) : k ∈ allChannels := by revert k; decide

theorem mem_transferOrder (s : State) (k : Fin 16) : k ∈ transferOrder s :=
  (mem_foldr_orderInsert s k _).2 (mem_allChannels k)

theorem sorted_transferOrder (s : State) : (transferOrder s).Pairwise s.notAfter := by
  have hsorted : ∀ l : List (Fin 16), (l.foldr (orderInsert s) []).Pairwise s.notAfter := by
    intro l
    induction l with
    | nil => exact List.Pairwise.nil
    | cons j t ih => exact sorted_orderInsert s j ih
  exact hsorted _

/-! ## A transfer ends in three cycles -/

/-- The cycles a channel's transfer has still to make, at most. -/
def cyclesLeft : Option Transfer → Nat
  | none => 0
  | some (.moved _) => 1
  | some (.located _ _) => 2
  | some (.requested _) => 3

theorem cyclesLeft_eq_zero {x : Option Transfer} : cyclesLeft x = 0 ↔ x = none := by
  cases x with
  | none => exact ⟨fun _ => rfl, fun _ => rfl⟩
  | some y => cases y <;> simp [cyclesLeft]

theorem cyclesLeft_dataCycle (s : State) (k : Fin 16) (dir : Direction) (w : Word) :
    cyclesLeft (dataCycle s k dir w).channels[k].transfer ≤ 1 := by
  rw [dataCycle_eq]
  cases blockGoesOn w <;> simp only [if_true, Bool.false_eq_true, if_false]
  · rw [transfer_endOfBlock, channels_setChannel_same]; exact Nat.zero_le _
  · rw [channels_setChannel_same]
    split
    · exact Nat.zero_le _
    · exact Nat.le_refl _

theorem cyclesLeft_transferCycle (s : State) (k : Fin 16) :
    cyclesLeft (transferCycle s k).channels[k].transfer ≤ cyclesLeft s.channels[k].transfer - 1 := by
  cases h : s.channels[k].transfer with
  | none => rw [transferCycle_none h, h]; exact Nat.le_refl _
  | some x =>
    cases x with
    | requested dir =>
      cases hp : s.cfg.channels[k].highPriority
      · rw [transferCycle_low h hp, controlCycle]
        split <;> rw [channels_setChannel_same] <;> simp [cyclesLeft]
      · rw [transferCycle_high h hp]
        exact Nat.le_succ_of_le (cyclesLeft_dataCycle _ _ _ _)
    | located dir w => rw [transferCycle_located h]; exact cyclesLeft_dataCycle _ _ _ _
    | moved w =>
      rw [transferCycle_moved h, writeBackCycle]
      split <;> rw [channels_setChannel_same] <;> exact Nat.le_refl _

theorem transfer_processTransfer (s : State) (k : Fin 16) : (processTransfer s k).channels[k].transfer = none := by
  have h1 := cyclesLeft_transferCycle s k
  have h2 := cyclesLeft_transferCycle (transferCycle s k) k
  have h3 := cyclesLeft_transferCycle (transferCycle (transferCycle s k) k) k
  have hmost : cyclesLeft s.channels[k].transfer ≤ 3 := by
    cases s.channels[k].transfer with
    | none => decide
    | some x => cases x <;> simp [cyclesLeft]
  exact cyclesLeft_eq_zero.1 (by rw [processTransfer]; omega)

theorem processTransfer_idle {s : State} {k : Fin 16} (h : s.channels[k].transfer = none) :
    processTransfer s k = s := by
  simp only [processTransfer, transferCycle_none h]

/-! ## The AIOS answers every channel in turn -/

theorem processTransfers_idle {s : State} (l : List (Fin 16)) (h : ∀ k : Fin 16, s.channels[k].transfer = none) :
    l.foldl processTransfer s = s := by
  induction l with
  | nil => rfl
  | cons k t ih => rw [List.foldl_cons, processTransfer_idle (h k), ih]

theorem aios_eq_foldl (s : State) : aios s = (transferOrder s).foldl processTransfer s := by
  unfold aios
  split
  case isTrue => rfl
  case isFalse hnone =>
    refine (processTransfers_idle _ fun k => ?_).symm
    by_contra hk
    exact hnone (List.any_eq_true.2 ⟨k, mem_allChannels k, Option.isSome_iff_ne_none.2 hk⟩)

/-- Answering any channel starts no transfer of another. -/
theorem processTransfer_keeps_idle {s : State} {k : Fin 16} (j : Fin 16) (h : s.channels[k].transfer = none) :
    (processTransfer s j).channels[k].transfer = none := by
  by_cases hjk : k = j
  · subst hjk; exact transfer_processTransfer s k
  · rw [processTransfer_other hjk, h]

theorem processTransfers_keep_idle {s : State} {k : Fin 16} (l : List (Fin 16)) (h : s.channels[k].transfer = none) :
    (l.foldl processTransfer s).channels[k].transfer = none := by
  induction l generalizing s with
  | nil => exact h
  | cons j t ih => exact ih (processTransfer_keeps_idle j h)

theorem processTransfers_answer (s : State) {k : Fin 16} {l : List (Fin 16)} (h : k ∈ l) :
    (l.foldl processTransfer s).channels[k].transfer = none := by
  induction l generalizing s with
  | nil => exact absurd h List.not_mem_nil
  | cons j t ih =>
    rcases List.mem_cons.1 h with rfl | ht
    · exact processTransfers_keep_idle t (transfer_processTransfer s k)
    · exact ih _ ht

/-- With one transfer pending, only its channel is answered. -/
theorem processTransfers_one {s : State} {k : Fin 16} {l : List (Fin 16)} (hk : k ∈ l)
    (h : ∀ j : Fin 16, j ≠ k → s.channels[j].transfer = none) :
    l.foldl processTransfer s = processTransfer s k := by
  induction l with
  | nil => exact absurd hk List.not_mem_nil
  | cons j t ih =>
    rw [List.foldl_cons]
    by_cases hjk : j = k
    · subst hjk
      refine processTransfers_idle t fun i => ?_
      by_cases hi : i = j
      · exact hi ▸ transfer_processTransfer s j
      · exact processTransfer_keeps_idle j (h i hi)
    · rw [processTransfer_idle (h j hjk)]
      exact ih ((List.mem_cons.1 hk).resolve_left (Ne.symm hjk))

/-- With two transfers pending, the channel of the lower actual priority value goes first. -/
theorem processTransfers_two {s : State} {k j : Fin 16} {l : List (Fin 16)} (hk : k ∈ l) (hj : j ∈ l)
    (hjk : j ≠ k) (h : ∀ i : Fin 16, i ≠ j → i ≠ k → s.channels[i].transfer = none)
    (hsort : l.Pairwise s.notAfter) (hfirst : ¬ s.notAfter j k) : l.foldl processTransfer s = processTransfer (processTransfer s k) j := by
  induction l with
  | nil => exact absurd hk List.not_mem_nil
  | cons i t ih =>
    obtain ⟨hi, ht⟩ := List.pairwise_cons.1 hsort
    rw [List.foldl_cons]
    by_cases hik : i = k
    · subst hik
      refine processTransfers_one ((List.mem_cons.1 hj).resolve_left hjk) fun x hx => ?_
      by_cases hxi : x = i
      · exact hxi ▸ transfer_processTransfer s i
      · exact processTransfer_keeps_idle i (h x hx hxi)
    · have hkt : k ∈ t := (List.mem_cons.1 hk).resolve_left (Ne.symm hik)
      have hij : i ≠ j := by rintro rfl; exact hfirst (hi k hkt)
      rw [processTransfer_idle (h i hij hik)]
      exact ih hkt ((List.mem_cons.1 hj).resolve_left (Ne.symm hij)) ht

/-! ## The step, the device and the bus -/

theorem prepare_unlisted {s : State} (hin : s.inputs = []) (hhalt : s.run ≠ .halt) (hoff : s.run ≠ .off) :
    prepare s = serviceAndFetch { aios s with within := [] } := by
  have hgo : ¬ s.stopped = true := fun h => ((stopped_iff s).1 h).elim hhalt hoff
  simp only [prepare, arrivals, hin]
  rw [if_neg hgo]

theorem hasLevel_service {s : State} {k : Fin 16} (h : s.cfg.channels[k].installed = true) (n : Level) :
    hasLevel (applyEvent s (.service k)).request n =
      (hasLevel s.request n || (hasLevel s.cfg.levelsPresent n && decide (n.toNat = 0x14 + k.val))) := by
  rw [applyEvent, if_pos (show s.channelInstalled k = true from h), hasLevel_signal]
  simp only [State.setChannel_request, State.setChannel_cfg, eq_serviceLevel_iff]

/-- A channel is not kept waiting by channels that have nothing to transfer. -/
theorem mayCycle_alone {s : State} {k : Fin 16} (h : ∀ j : Fin 16, j ≠ k → s.channels[j].transfer = none) :
    s.mayCycle k = true := by
  refine Bool.or_eq_true_iff.2 (.inr (List.all_eq_true.2 fun j _ => ?_))
  by_cases hj : j = k
  · subst hj; simp
  · simp only [State.awaits, h j hj, Bool.not_false, Bool.true_or]

/-- Before a memory cycle of the CP comes the one cycle that is listed for it. -/
theorem tick_cycle {s : State} {k : Fin 16} {rest : List (List BusEvent)} (hwithin : s.within = [.cycle k] :: rest)
    (hhalt : s.run ≠ .halt) (hoff : s.run ≠ .off) (h : ∀ j : Fin 16, j ≠ k → s.channels[j].transfer = none) :
    s.tick = { transferCycle s k with within := rest } := by
  have hgo : s.stopped = false := Bool.eq_false_iff.2 fun h => ((stopped_iff s).1 h).elim hhalt hoff
  have hmay := mayCycle_alone h
  rw [← transferCycle_within]
  simp only [State.tick, hwithin, List.foldl_cons, List.foldl_nil, applyBus]
  refine if_neg ?_
  show ¬ (s.stopped || !s.mayCycle k) = true
  rw [hgo, hmay]
  decide

/-- Settles O58: a pending transfer is at most three cycles, whose effects are composed in `processTransfer_eq`; the
AIOS goes through the channels in a sorted list, where those with nothing pending count for nothing. -/
theorem aiosInputTransfer : Obligations.AiosInputTransfer := by
  intro s k
  dsimp only
  refine ⟨fun dir h => ⟨fun hlow hd => ?_, fun hd => ?_⟩, rfl, fun h => ?_, fun j hj h hlt => ?_, fun j => ?_,
    prepare_unlisted, fun n h => hasLevel_service h n, tick_bus s, tick_quiet s,
    fun rest hwithin hhalt hoff h => tick_cycle hwithin hhalt hoff h⟩
  · have hu := processTransfer_refused h hlow hd
    refine ⟨by rw [hu]; rfl, fun j hj => processTransfer_other hj s, ?_⟩
    rw [hu, channels_setChannel_same]
  · have hu := processTransfer_eq h hd
    have hmem := mem_answered s k dir (s.controlWord k)
    have hword := wordAt_of_mem hmem
    have hbad := parityBadAt_of_list (parityBad_answered s k dir (s.controlWord k))
    refine ⟨processTransfer_frame s k, fun hst hne => ?_, fun hback => ?_, fun a hst hne => ?_, fun x => ?_,
      fun j hj => processTransfer_other hj s, ?_, fun n => ?_⟩
    · rw [hu, datum_of_mem hmem]; exact datum_transferred s k dir (s.controlWord k) hst hne
    · rw [hu, hword]; exact wordAt_transferred s k dir (s.controlWord k) hback
    · rw [hu, byteAt_of_mem hmem]; exact byteAt_transferred s k dir (s.controlWord k) hst hne
    · rw [hu, hbad]; exact parityBadAt_transferred s k dir (s.controlWord k) x
    · simp only [hu, hword, hbad]; exact channel_answered s k dir (s.controlWord k)
    · rw [hu]; exact hasLevel_answered s k dir (s.controlWord k) n
  · rw [aios_eq_foldl]; exact processTransfers_one (mem_transferOrder s k) h
  · rw [aios_eq_foldl]
    exact processTransfers_two (mem_transferOrder s k) (mem_transferOrder s j) hj h (sorted_transferOrder s)
      (Nat.not_le_of_gt hlt)
  · rw [aios_eq_foldl]; exact processTransfers_answer s (mem_transferOrder s j)

end Sys2Proof.Machine

/-!
Encoding and decoding (30_encoding.md): decode inverts encode on the well-formed instructions (O1), and a format code
that selects no variant stops a multiply, a divide and a floating-point instruction (O32).
-/

namespace Sys2Proof

/-! ## The fields of each format (30_encoding.md R103, R104, R106 to R109, R112, R114) -/

/-- A field of a pattern is read bit by bit. -/
theorem extractLsb'_eq_of_getLsbD {n k start : Nat} {v : BitVec n} {x : BitVec k}
    (h : ∀ i < k, v.getLsbD (start + i) = x.getLsbD i) : v.extractLsb' start k = x :=
  BitVec.eq_of_getLsbD_eq fun i hi => by simpa [BitVec.getLsbD_extractLsb', hi] using h i hi

section Fields

variable (op : BitVec 6) (r d s : BitVec 3)

@[simp] theorem fields_interRegister (aug : BitVec 4) :
    (interRegister op d s aug).extractLsb' 10 6 = op ∧ (interRegister op d s aug).extractLsb' 7 3 = d ∧
      (interRegister op d s aug).extractLsb' 4 3 = s ∧ (interRegister op d s aug).extractLsb' 0 4 = aug := by
  refine ⟨?_, ?_, ?_, ?_⟩ <;> refine extractLsb'_eq_of_getLsbD fun i hi => ?_ <;>
    simp only [interRegister, BitVec.getLsbD_append] <;> grind

@[simp] theorem fields_shiftHalf (left : Bool) (n : BitVec 5) :
    (shiftHalf op r left n).extractLsb' 10 6 = op ∧ (shiftHalf op r left n).extractLsb' 7 3 = r ∧
      (shiftHalf op r left n)[6] = left ∧ (shiftHalf op r left n).extractLsb' 0 5 = n := by
  refine ⟨extractLsb'_eq_of_getLsbD fun i hi => ?_, extractLsb'_eq_of_getLsbD fun i hi => ?_, ?_,
    extractLsb'_eq_of_getLsbD fun i hi => ?_⟩ <;>
    simp only [← BitVec.getLsbD_eq_getElem, shiftHalf, BitVec.getLsbD_append] <;> grind

@[simp] theorem fields_bitHalf (n : BitVec 3) (y : BitVec 2) :
    (bitHalf op n r y).extractLsb' 10 6 = op ∧ (bitHalf op n r y).extractLsb' 7 3 = n ∧
      (bitHalf op n r y).extractLsb' 4 3 = r ∧ (bitHalf op n r y).extractLsb' 0 2 = y := by
  refine ⟨?_, ?_, ?_, ?_⟩ <;> refine extractLsb'_eq_of_getLsbD fun i hi => ?_ <;>
    simp only [bitHalf, BitVec.getLsbD_append] <;> grind

@[simp] theorem fields_memoryWord (m : MemRef) :
    (memoryWord op r m).extractLsb' 26 6 = op ∧ (memoryWord op r m).extractLsb' 23 3 = r ∧
      MemRef.ofWord (memoryWord op r m) = m := by
  obtain ⟨x, ind, f, addr⟩ := m
  rw [MemRef.ofWord, MemRef.mk.injEq]
  refine ⟨extractLsb'_eq_of_getLsbD fun i hi => ?_, extractLsb'_eq_of_getLsbD fun i hi => ?_,
    extractLsb'_eq_of_getLsbD fun i hi => ?_, ?_, ?_, extractLsb'_eq_of_getLsbD fun i hi => ?_⟩ <;>
    simp only [memoryWord, BitVec.getLsbD_append] <;> grind

@[simp] theorem fields_immediateWord (aug : BitVec 3) (imm : BitVec 16) :
    (immediateWord r aug imm).extractLsb' 26 6 = 0x32#6 ∧ (immediateWord r aug imm).extractLsb' 23 3 = r ∧
      (immediateWord r aug imm).extractLsb' 16 3 = aug ∧ (immediateWord r aug imm).extractLsb' 0 16 = imm ∧
      (immediateWord r aug imm)[1] = imm[1] := by
  refine ⟨extractLsb'_eq_of_getLsbD fun i hi => ?_, extractLsb'_eq_of_getLsbD fun i hi => ?_,
    extractLsb'_eq_of_getLsbD fun i hi => ?_, extractLsb'_eq_of_getLsbD fun i hi => ?_, ?_⟩ <;>
    simp only [← BitVec.getLsbD_eq_getElem, immediateWord, BitVec.getLsbD_append] <;> grind

@[simp] theorem fields_controlWord (n : BitVec 7) (aug : BitVec 3) (code : BitVec 16) :
    (controlWord n aug code).extractLsb' 26 6 = 0x3F#6 ∧ (controlWord n aug code).extractLsb' 19 7 = n ∧
      (controlWord n aug code).extractLsb' 16 3 = aug ∧ (controlWord n aug code).extractLsb' 0 16 = code := by
  refine ⟨?_, ?_, ?_, ?_⟩ <;> refine extractLsb'_eq_of_getLsbD fun i hi => ?_ <;>
    simp only [controlWord, BitVec.getLsbD_append] <;> grind

@[simp] theorem fields_protectWord (sub : BitVec 3) (p : BitVec 4) :
    (protectWord sub p r).extractLsb' 26 6 = 0x3E#6 ∧ (protectWord sub p r).extractLsb' 23 3 = sub ∧
      (protectWord sub p r).extractLsb' 19 4 = p ∧ (protectWord sub p r).extractLsb' 16 3 = r := by
  refine ⟨?_, ?_, ?_, ?_⟩ <;> refine extractLsb'_eq_of_getLsbD fun i hi => ?_ <;>
    simp only [protectWord, BitVec.getLsbD_append] <;> grind

end Fields

/-! ## The variant of a format code (20_memory.md R63, 30_encoding.md R105, R115) -/

section Formats

variable {m : MemRef} (byte half word double : Instr)

theorem byFormat_byte (h : m.isByte = true) : byFormat m byte half word double = byte := if_pos h

theorem byFormat_half (h : m.isHalf = true) : byFormat m byte half word double = half := by
  have hbyte : m.isByte = false := by simp_all [MemRef.isHalf, MemRef.isByte]
  simp [byFormat, hbyte, h]

theorem byFormat_double (h : m.isDouble = true) : byFormat m byte half word double = double := by
  have hbyte : m.isByte = false := by simp_all [MemRef.isDouble, MemRef.isByte]
  have hhalf : m.isHalf = false := by simp_all [MemRef.isDouble, MemRef.isHalf]
  simp [byFormat, hbyte, hhalf, h]

/-- A multiply or divide has one word form for the codes of a word and of a doubleword (log 23). -/
theorem byFormat_wordOrDouble (h : m.isWordOrDouble = true) : byFormat m byte half word word = word := by
  have hbyte : m.isByte = false := by simp_all [MemRef.isWordOrDouble, MemRef.isByte]
  have hhalf : m.isHalf = false := by
    simp only [MemRef.isWordOrDouble, Bool.and_eq_true, Bool.or_eq_true, beq_iff_eq] at h
    obtain ⟨-, hc | hc⟩ := h <;> simp [MemRef.isHalf, hc]
  simp [byFormat, hbyte, hhalf]

theorem byFormat_word (h : m.isWord = true) : byFormat m byte half word double = word := by
  have hdouble : m.isDouble = false := by simp_all [MemRef.isWord, MemRef.isDouble]
  have hboth : m.isWordOrDouble = true := by simp_all [MemRef.isWord, MemRef.isWordOrDouble]
  have hsame : byFormat m byte half word double = byFormat m byte half word word := by simp [byFormat, hdouble]
  exact hsame.trans (byFormat_wordOrDouble byte half word hboth)

theorem isFloatWord_iff {aug : Bool} : m.isFloatWord aug = true ↔ m.f = aug ∧ m.c ≠ 2#2 := by
  simp [MemRef.isFloatWord]

theorem isFloatDouble_iff {aug : Bool} : m.isFloatDouble aug = true ↔ m.f = aug ∧ m.c = 2#2 := by
  simp [MemRef.isFloatDouble]

end Formats

/-! ## Bits and bytes of an instruction (30_encoding.md R101, 20_memory.md R61) -/

/-- The decoder of a halfword or of a word. -/
def decodeBits : Half ⊕ Word → Option Instr := Sum.elim decodeHalf decodeWord

@[simp] theorem decodeBits_half (h : Half) : decodeBits (.inl h) = decodeHalf h := rfl

@[simp] theorem decodeBits_word (w : Word) : decodeBits (.inr w) = decodeWord w := rfl

/-- The halfword operation codes begin with a zero. -/
theorem msb_of_decodeHalf {h : Half} {i : Instr} (hd : decodeHalf h = some i) : h.msb = false := by
  have hop : (h.extractLsb' 10 6).toNat = h.toNat / 1024 := by
    have := h.isLt
    rw [BitVec.extractLsb'_toNat, Nat.shiftRight_eq_div_pow]; omega
  rw [BitVec.msb_eq_false_iff_two_mul_lt]
  unfold decodeHalf at hd
  dsimp only at hd
  split at hd
  any_goals omega
  cases hd

/-- The word operation codes begin with a one. -/
theorem msb_of_decodeWord {w : Word} {i : Instr} (hd : decodeWord w = some i) : w.msb = true := by
  have hop : (w.extractLsb' 26 6).toNat = w.toNat / 0x4000000 := by
    have := w.isLt
    rw [BitVec.extractLsb'_toNat, Nat.shiftRight_eq_div_pow]; omega
  rw [BitVec.msb_eq_true_iff_two_mul_ge]
  unfold decodeWord at hd
  dsimp only at hd
  split at hd
  any_goals omega
  cases hd

theorem decode_halfBytes {h : Half} (hmsb : h.msb = false) : decode (halfBytes h) = orUndefined (decodeHalf h) := by
  have hbit : (h.extractLsb' 8 8).msb = false := by
    rw [BitVec.msb_extractLsb']; simpa [BitVec.msb] using hmsb
  have happend : h.extractLsb' 8 8 ++ h.extractLsb' 0 8 = h :=
    (BitVec.extractLsb'_append_extractLsb'_eq_extractLsb' rfl).trans BitVec.extractLsb'_eq_self
  simp only [decode, halfBytes, hbit, happend, Bool.false_eq_true, if_false]

theorem decode_wordBytes {w : Word} (hmsb : w.msb = true) : decode (wordBytes w) = orUndefined (decodeWord w) := by
  have hbit : (w.extractLsb' 24 8).msb = true := by
    rw [BitVec.msb_extractLsb']; simpa [BitVec.msb] using hmsb
  simp only [decode, wordBytes, hbit, Machine.wordBytes_append, if_true]

/-- The first bit tells the decoder the length, so it is enough to decode the bits. -/
theorem decode_encode_of_decodeBits {i : Instr} (h : decodeBits (encodeBits i) = some i) :
    decode (encode i) = .ok i := by
  unfold encode
  cases hbits : encodeBits i with
  | inl b =>
    have hd : decodeHalf b = some i := by rwa [hbits] at h
    rw [decode_halfBytes (msb_of_decodeHalf hd), hd]; rfl
  | inr w =>
    have hd : decodeWord w = some i := by rwa [hbits] at h
    rw [decode_wordBytes (msb_of_decodeWord hd), hd]; rfl

/-! ## Every instruction by its format -/

/-- By format: the fields come back as they were written, and what they select is the instruction. -/
theorem decodeBits_encodeBits {i : Instr} (h : i.wellFormed = true) : decodeBits (encodeBits i) = some i := by
  cases i with
  | lb r m | lmb r m | lnb r m | stb r m | stmb r m | zmb m | admb r m | armb r m | sumb r m | mpmb r m
  | dvmb r m | anmb r m | ormb r m | eomb r m | camb r m | cmmb r m =>
    simp [encodeBits, decodeWord, decodeF8, byFormat_byte _ _ _ _ h]
  | lh r m | lmh r m | lnh r m | sth r m | stmh r m | zmh m | admh r m | armh r m | sumh r m | mpmh r m
  | dvmh r m | anmh r m | ormh r m | eomh r m | camh r m | cmmh r m =>
    simp [encodeBits, decodeWord, decodeF8, byFormat_half _ _ _ _ h]
  | lw r m | lmw r m | lnw r m | stw r m | stmw r m | zmw m | admw r m | armw r m | sumw r m | anmw r m
  | ormw r m | eomw r m | camw r m | cmmw r m =>
    simp [encodeBits, decodeWord, decodeF8, byFormat_word _ _ _ _ h]
  | ld r m | lmd r m | lnd r m | std r m | stmd r m | zmd m | admd r m | armd r m | sumd r m | anmd r m
  | ormd r m | eomd r m | camd r m | cmmd r m =>
    simp [encodeBits, decodeWord, decodeF8, byFormat_double _ _ _ _ h]
  | mpmw r m | dvmw r m =>
    simp [encodeBits, decodeWord, byFormat_wordOrDouble _ _ _ h]
  | adfw r m | sufw r m | mpfw r m | dvfw r m =>
    obtain ⟨hf, hc⟩ := isFloatWord_iff.1 h
    simp [encodeBits, decodeWord, hf, hc]
  | adfd r m | sufd r m | mpfd r m | dvfd r m =>
    obtain ⟨hf, hc⟩ := isFloatDouble_iff.1 h
    simp [encodeBits, decodeWord, hf, hc]
  | lea r m | lf r m | stf r m | sbm n m | zbm n m | abm n m | tbm n m | bu m | bft m | bl m | bri m
  | exm m | trp p r | tpr p r =>
    simp [encodeBits, decodeWord, decodeF8]
  | bct d m | bcf d m =>
    have hd : d ≠ 0#3 := bne_iff_ne.1 h
    simp [encodeBits, decodeWord, hd]
  | bib r m | bih r m | biw r m | bid r m =>
    obtain ⟨x, ind, f, addr⟩ := m
    obtain rfl : x = 0#2 := eq_of_beq h
    simp [encodeBits, decodeWord, decodeIncrement]
  | li r imm | adi r imm | sui r imm | mpi r imm | dvi r imm | ci r imm | exr r | exrr r =>
    simp [encodeBits, decodeWord, decodeImmediate]
  | ei n | di n | ri n | ai n | dai n | cd device code | td device code =>
    simp [encodeBits, decodeWord, decodeFC]
  | lcs r | zr d | adr d s | adrm d s | sur d s | surm d s | mpr d s | dvr d s | es r | rnd r | anr d s
  | orr d s | orrm d s | eorm d s | car d s | cmr d s | trr d s | trrm d s | trn d s | trnm d s | xcr d s
  | xcrm d s | trc d s | trcm d s | trsw r | nor a b | nord a b | scz a b | halt | wait | nop =>
    simp [encodeBits, decodeHalf, plainOrMasked, decodeControl, decodeTransfer]
  | eor d s =>
    have hd : d ≠ s := bne_iff_ne.1 h
    simp [encodeBits, decodeHalf, plainOrMasked, hd]
  | sbr n r y | zbr n r y | abr n r y | tbr n r y | sla r n | sll r n | slc r n | slad r n | slld r n
  | sra r n | srl r n | src r n | srad r n | srld r n =>
    simp [encodeBits, decodeHalf]
  | calm flags =>
    have hop : (0x0c#6 ++ flags).extractLsb' 10 6 = 0x0c#6 := BitVec.extractLsb'_append_eq_left
    have hflags : (0x0c#6 ++ flags).extractLsb' 0 10 = flags := BitVec.extractLsb'_append_eq_right
    simp [encodeBits, decodeHalf, hop, hflags]

/-- Settles O1: the bits decode to the instruction, and their first one tells the length. -/
theorem decodeEncodeRoundTrip : Obligations.DecodeEncodeRoundTrip :=
  fun _ h => decode_encode_of_decodeBits (decodeBits_encodeBits h)

end Sys2Proof

namespace Sys2Proof.Machine

/-! ## Format codes without a variant (30_encoding.md R105, 42_floating_point.md R233) -/

section NoVariant

variable {s u : State} {m : MemRef} {e : Ea} (he : effAddr s m = .ok (e, u))
include he

theorem ReadsWordOperand.noVariant {op : State → Act State} (h : ReadsWordOperand m op) (hk : e.format = .double) :
    op s = .error (.fault .noVariant) := by
  obtain ⟨f, hf⟩ := h
  exact (hf s).trans (by simp [withWordOperand, he, hk, bind, Except.bind])

theorem floatOp_noVariant (hopt : s.cfg.optFp = true) (hc : e.c = 1#2 ∨ e.c = 3#2)
    (f : {n : Nat} → BitVec n → BitVec n → FloatResult n) (r : Reg) :
    floatOp f r m s = .error (.fault .noVariant) := by
  obtain hc | hc := hc <;> simp [floatOp, hopt, he, hc, bind, Except.bind]

end NoVariant

theorem runWord_fault {op : State → Act State} {s : State} {f : Fault} (h : op (s.advance 2#18) = .error (.fault f)) :
    runWord op s = .fault f := by
  rw [runWord, h, complete_fault]

/-- Settles O32: the format code is looked at after the effective address and before the operand's first cycle. -/
theorem noVariantFaults : Obligations.NoVariantFaults := by
  intro s u r m e he
  have he' := effAddr_ok_advance he 2#18
  refine ⟨fun hk i hi => ?_, fun hopt hc i hi => ?_⟩
  · obtain ⟨op, hop, hexec⟩ := exec_multiplyDivide hi
    exact (hexec s).trans (runWord_fault (hop.noVariant he' hk))
  · obtain ⟨f, hexec⟩ := exec_float hi
    exact (hexec s).trans (runWord_fault (floatOp_noVariant he' hopt hc f r))

end Sys2Proof.Machine

/-!
Loads and stores (40_load_store.md): words written out (O5), masked and negative loads (O15, O16), immediates and
switches (O18), zeros in memory (O22), and file transfers (O20).
-/

namespace Sys2Proof

/-! ## Words written out (30_encoding.md R101, R103) -/

theorem decode_of_encode {i : Instr} {bytes : List Byte} (hwf : i.wellFormed = true) (h : encode i = bytes) :
    decode bytes = .ok i :=
  h ▸ decodeEncodeRoundTrip i hwf

/-- Settles O5: the bytes are the encodings of well-formed instructions, and decode inverts encode. -/
theorem decodeKnownWords : Obligations.DecodeKnownWords :=
  ⟨decode_of_encode rfl rfl, decode_of_encode rfl rfl, decode_of_encode rfl rfl, decode_of_encode rfl rfl,
    decode_of_encode rfl rfl⟩

end Sys2Proof

namespace Sys2Proof.Machine

/-! ## Patterns without an exception (40_load_store.md R142, R179) -/

/-- A pattern delivered to one register without an exception. -/
theorem deliver_one (s : State) (len : BitVec 18) (r : Reg) (w : Word) :
    (s.advance len).deliver r false (.one w) = s.placed len r w := by
  rw [State.deliver, scc_eq_orderCC]; rfl

/-- A pattern delivered to a pair without an exception. -/
theorem deliver_two (s : State) (len : BitVec 18) (r : Reg) (x : DWord) :
    (s.advance len).deliver r false (.two x) = s.placedPair len r x := by
  rw [State.deliver, scc_eq_orderCC]; rfl

/-- An instruction that reads one operand goes on with it in the state after the cycles that read. -/
theorem runWord_withOperand {s v : State} {m : MemRef} {d : Datum} (h : Reads s m d v) (f : State → Datum → State) :
    runWord (withOperand m fun s d => .ok (f s d)) s = .next (f (v.advance 2#18) d) :=
  runWord_ok _ _ _ (withOperand_reads (h.advance 2#18) _)

/-! ## Masked loads (40_load_store.md R147 to R150) -/

theorem exec_loadMasked {i : Instr} {r : Reg} {m : MemRef} (hi : i ∈ [Instr.lmb r m, .lmh r m, .lmw r m, .lmd r m])
    (s : State) : exec i s = runWord (loadMaskedOp r m) s := by
  simp only [List.mem_cons, List.not_mem_nil, or_false] at hi
  rcases hi with rfl | rfl | rfl | rfl <;> rfl

/-- Each word of a doubleword is masked alike. -/
theorem and_mask_pair (x : DWord) (k : Word) :
    x &&& (k ++ k) = (x.extractLsb' 32 32 &&& k) ++ (x.extractLsb' 0 32 &&& k) := by
  have hx : x.extractLsb' 32 32 ++ x.extractLsb' 0 32 = x :=
    (BitVec.extractLsb'_append_extractLsb'_eq_extractLsb' rfl).trans BitVec.extractLsb'_eq_self
  rw [← BitVec.and_append, hx]

/-- Settles O15: the bus leaves R4, so the mask is the old one. -/
theorem loadMaskedResult : Obligations.LoadMaskedResult := by
  intro s v r m d h i hi
  have hmask : (v.advance 2#18).mask = s.reg 4#3 := h.bussed.reg 4#3
  rw [exec_loadMasked hi]
  refine (runWord_withOperand h fun s d => s.deliver r false (d.extend.masked s.mask)).trans (congrArg _ ?_)
  rw [hmask]
  cases d with
  | byte b => dsimp only; rw [BitVec.ofNat_toNat]; exact deliver_one ..
  | half x => exact deliver_one ..
  | word w => exact deliver_one ..
  | double x => dsimp only; rw [← and_mask_pair]; exact deliver_two ..

/-! ## Negative loads (40_load_store.md R151 to R154) -/

theorem exec_loadNegative {i : Instr} {r : Reg} {m : MemRef} (hi : i ∈ [Instr.lnb r m, .lnh r m, .lnw r m, .lnd r m])
    (s : State) : exec i s = runWord (loadNegativeOp r m) s := by
  simp only [List.mem_cons, List.not_mem_nil, or_false] at hi
  rcases hi with rfl | rfl | rfl | rfl <;> rfl

theorem minusFullScale_eq_intMin (n : Nat) : minusFullScale n = BitVec.intMin n :=
  BitVec.eq_of_toNat_eq (by rw [minusFullScale, BitVec.toNat_ofNat, BitVec.toNat_intMin])

/-- Minus full scale is the one pattern whose negation does not fit. -/
theorem beq_minusFullScale {n : Nat} (hn : 0 < n) (x : BitVec n) :
    (x == minusFullScale n) = outOfRange n (-x.toInt) := by
  have hmin : (x == minusFullScale n) = (x.toInt == -2 ^ (n - 1)) := by
    have h := BitVec.negOverflow_eq x
    rw [decide_eq_true hn, Bool.true_and, ← minusFullScale_eq_intMin] at h
    exact h.symm
  have hlo := BitVec.le_toInt x
  have hhi := BitVec.toInt_lt (x := x)
  rw [hmin, Bool.eq_iff_iff]
  simp only [outOfRange, beq_iff_eq, Bool.or_eq_true, decide_eq_true_eq]
  omega

/-- The register value that a byte, halfword or word extends to stands for the operand's integer (41 R190). -/
theorem extend_eq_one {d : Datum} (h : d.format ≠ .double) : ∃ w, d.extend = .one w ∧ w.toInt = d.int := by
  cases d with
  | byte b =>
    refine ⟨_, rfl, ?_⟩
    have := b.isLt
    rw [zextByte, BitVec.toInt_setWidth, Datum.int, Int.bmod_eq_of_le] <;> omega
  | half x => exact ⟨_, rfl, BitVec.toInt_signExtend_of_le (by decide)⟩
  | word w => exact ⟨w, rfl, rfl⟩
  | double x => exact absurd rfl h

theorem deliverNegative_register (s : State) (len : BitVec 18) (r : Reg) {d : Datum} (h : d.format ≠ .double) :
    (s.advance len).deliverNegative r d.extend = s.delivered len r (-d.int) d.format := by
  obtain ⟨w, hw, hint⟩ := extend_eq_one h
  rw [hw, State.deliverNegative, delivered_register _ _ _ _ h, ← hint, beq_minusFullScale (by decide),
    BitVec.ofInt_neg, BitVec.ofInt_toInt]

/-- A negated operand is delivered, with the exception exactly when its negation does not fit. -/
theorem deliverNegative_extend (s : State) (len : BitVec 18) (r : Reg) (d : Datum) :
    (s.advance len).deliverNegative r d.extend = s.delivered len r (-d.int) d.format := by
  cases d with
  | byte | half | word => exact deliverNegative_register s len r nofun
  | double x =>
    rw [Datum.extend, State.deliverNegative, Datum.format, delivered_pair, Datum.int, beq_minusFullScale (by decide),
      BitVec.ofInt_neg, BitVec.ofInt_toInt]

/-- Settles O16: the operation delivers the negation of the operand. -/
theorem loadNegativeResult : Obligations.LoadNegativeResult := by
  intro s v r m d h i hi
  rw [exec_loadNegative hi, ← deliverNegative_extend]
  exact runWord_withOperand h fun s d => s.deliverNegative r d.extend

/-! ## Immediates and switches (40_load_store.md R155, R179, R186) -/

/-- The switches stand in bits 0 to 12. -/
theorem switches_append_zero (c : BitVec 13) : c ++ 0#19 = BitVec.ofNat 32 (c.toNat * 2 ^ 19) := by
  have := c.isLt
  apply BitVec.eq_of_toNat_eq
  rw [BitVec.toNat_append, BitVec.toNat_ofNat, Nat.shiftLeft_eq, BitVec.toNat_ofNat]
  simp only [Nat.zero_mod, Nat.or_zero]
  omega

theorem exec_li (s : State) (r : Reg) (imm : BitVec 16) :
    exec (.li r imm) s = .next (s.delivered 2#18 r imm.toInt .word) :=
  congrArg Host.Outcome.next (deliver_extend s 2#18 r (.half imm))

theorem exec_lcs (s : State) (r : Reg) :
    exec (.lcs r) s = .next (s.placed 1#18 r (BitVec.ofNat 32 (s.controlSwitches.toNat * 2 ^ 19))) := by
  rw [← switches_append_zero, ← deliver_one]; rfl

theorem exec_zr (s : State) (r : Reg) : exec (.zr r) s = .next (s.placed 1#18 r 0#32) := rfl

/-- Settles O18: each of the three is one delivery of a pattern. -/
theorem immediateAndSwitchLoads : Obligations.ImmediateAndSwitchLoads :=
  fun s r imm => ⟨exec_li s r imm, exec_lcs s r, exec_zr s r⟩

/-! ## Zeros in memory (40_load_store.md R170 to R173) -/

theorem exec_zeroMemory {i : Instr} {m : MemRef} (hi : i ∈ [Instr.zmb m, .zmh m, .zmw m, .zmd m]) (s : State) :
    exec i s = runWord (zeroMemoryOp m) s := by
  simp only [List.mem_cons, List.not_mem_nil, or_false] at hi
  rcases hi with rfl | rfl | rfl | rfl <;> rfl

theorem zero_eq_zeroOf (k : Format) : k.zero = zeroOf k := by cases k <;> rfl

theorem format_zeroOf (k : Format) : (zeroOf k).format = k := by cases k <;> rfl

/-- The two words of a doubleword (20_memory.md R70). -/
theorem evenWord_eq_iff (w x : WordAddr) : evenWord w = evenWord x ↔ w = evenWord x ∨ w = oddWord x := by
  have hw : w.extractLsb' 1 16 ++ w.extractLsb' 0 1 = w :=
    (BitVec.extractLsb'_append_extractLsb'_eq_extractLsb' rfl).trans BitVec.extractLsb'_eq_self
  have hhigh : ∀ c : BitVec 1, (x.extractLsb' 1 16 ++ c).extractLsb' 1 16 = x.extractLsb' 1 16 := fun _ =>
    BitVec.extractLsb'_append_eq_left
  simp only [evenWord, oddWord]
  constructor
  · intro h
    have hsame : w.extractLsb' 1 16 = x.extractLsb' 1 16 := by
      have := congrArg (BitVec.extractLsb' 1 16) h
      rwa [hhigh, BitVec.extractLsb'_append_eq_left] at this
    rw [hsame] at hw
    exact (BitVec.eq_zero_or_eq_one (w.extractLsb' 0 1)).imp (fun h => by rw [← hw, h]) (fun h => by rw [← hw, h])
  · rintro (h | h) <;> rw [h, hhigh]

theorem oddWord_ne_evenWord (w : WordAddr) : oddWord w ≠ evenWord w := fun h => by
  have hlow := congrArg (BitVec.extractLsb' 0 1) h
  rw [oddWord, evenWord, BitVec.extractLsb'_append_eq_right, BitVec.extractLsb'_append_eq_right] at hlow
  exact absurd hlow (by decide)

/-- A stored word, by its word address. -/
theorem stored_wordEa_iff (s t : State) (w : WordAddr) (v : Word) :
    Stored s t (wordEa w) (.word v) ↔
      t = { s with mem := t.mem, parityBad := t.parityBad } ∧ t.wordAt w = v ∧
        (∀ a : Addr, a.wordAddr ≠ w → t.byteAt a = s.byteAt a) ∧
        ∀ x, t.parityBadAt x = (s.parityBadAt x && x != w) := by
  simp [Stored, State.datum, covers, coversWord, bne]

theorem wordAt_congr {s t : State} {w : WordAddr} (h : ∀ a : Addr, a.wordAddr = w → t.byteAt a = s.byteAt a) :
    t.wordAt w = s.wordAt w := by
  simp only [State.wordAt, h _ (wordAddr_append w _)]

/-- Without anything on the bus the two cycles of a doubleword store one operand. -/
theorem stored_double {s t : State} {e : Ea} {v : DWord} (hk : e.format = .double) (hq : s.within = [])
    (h : Written s t e (.double v)) : Stored s t e (.double v) := by
  obtain ⟨w, hodd, heven⟩ := h
  rw [tick_quiet s hq, stored_wordEa_iff] at hodd
  obtain ⟨hframe, hlow, hbytes, hparity⟩ := hodd
  have hq' : w.within = [] := by rw [hframe]; exact hq
  rw [tick_quiet w hq', stored_wordEa_iff] at heven
  obtain ⟨hframe', hhigh, hbytes', hparity'⟩ := heven
  have hlow' : t.wordAt (oddWord e.word) = v.extractLsb' 0 32 :=
    (wordAt_congr fun a ha => hbytes' a (ha ▸ oddWord_ne_evenWord e.word)).trans hlow
  refine ⟨by rw [hframe', hframe], ?_, fun a ha => ?_, fun x => ?_⟩
  · rw [State.datum, hk, State.doubleAt, hhigh, hlow']
    exact congrArg Datum.double <|
      (BitVec.extractLsb'_append_extractLsb'_eq_extractLsb' rfl).trans BitVec.extractLsb'_eq_self
  · simp only [covers, hk, beq_eq_false_iff_ne, ne_eq, evenWord_eq_iff, not_or] at ha
    rw [hbytes' a ha.1, hbytes a ha.2]
  · have hcovers : coversWord e x = (x == evenWord e.word || x == oddWord e.word) := by
      rw [Bool.eq_iff_iff]; simp [coversWord, hk, evenWord_eq_iff]
    rw [hparity', hparity, hcovers, Bool.not_or, Bool.and_assoc, Bool.and_comm (x != oddWord e.word)]; rfl

/-- Without anything on the bus the cycles that store an operand store it and nothing else. -/
theorem Written.stored {s t : State} {e : Ea} {d : Datum} (h : Written s t e d) (hd : d.format = e.format)
    (hq : s.within = []) : Stored s t e d := by
  cases d with
  | byte | half | word => rw [← tick_quiet s hq]; exact h
  | double v => exact stored_double hd.symm hq h

theorem eq_zero_of_append {m n : Nat} {x : BitVec m} {y : BitVec n} (h : x ++ y = 0#(m + n)) : x = 0#m ∧ y = 0#n := by
  constructor
  · rw [← BitVec.extractLsb'_append_eq_left (a := x) (b := y), h, BitVec.extractLsb'_zero]
  · rw [← BitVec.extractLsb'_append_eq_right (a := x) (b := y), h, BitVec.extractLsb'_zero]

theorem byteAt_of_wordAt_zero {s : State} {a : Addr} (h : s.wordAt a.wordAddr = 0#32) : s.byteAt a = 0#8 := by
  obtain ⟨h012, h3⟩ := eq_zero_of_append h
  obtain ⟨h01, h2⟩ := eq_zero_of_append h012
  obtain ⟨h0, h1⟩ := eq_zero_of_append h01
  have ha : a.wordAddr ++ a.c = a :=
    (BitVec.extractLsb'_append_extractLsb'_eq_extractLsb' rfl).trans BitVec.extractLsb'_eq_self
  have hc : ∀ c : BitVec 2, c = 0#2 ∨ c = 1#2 ∨ c = 2#2 ∨ c = 3#2 := by decide
  rw [← ha]
  obtain hc | hc | hc | hc := hc a.c <;> rw [hc] <;> assumption

theorem byteAt_of_halfAt_zero {s : State} {a b : Addr} (h : s.halfAt b = 0#16)
    (hab : a.extractLsb' 1 18 = b.extractLsb' 1 18) : s.byteAt a = 0#8 := by
  obtain ⟨h0, h1⟩ := eq_zero_of_append h
  have ha : halfByteAddr b (a.extractLsb' 0 1) = a := by
    rw [halfByteAddr, ← hab]
    exact (BitVec.extractLsb'_append_extractLsb'_eq_extractLsb' rfl).trans BitVec.extractLsb'_eq_self
  rw [← ha]
  obtain hc | hc := BitVec.eq_zero_or_eq_one (a.extractLsb' 0 1) <;> rw [hc] <;> assumption

/-- Every byte of an operand that reads as zero is zero. -/
theorem byteAt_of_datum_zero {t : State} {e : Ea} (h : t.datum e = zeroOf e.format) {a : Addr}
    (ha : covers e a = true) : t.byteAt a = 0#8 := by
  unfold State.datum at h
  unfold covers at ha
  cases hk : e.format <;> simp only [hk, zeroOf, Datum.byte.injEq, Datum.half.injEq, Datum.word.injEq,
    Datum.double.injEq, beq_iff_eq] at h ha
  case byte => rwa [ha]
  case half => exact byteAt_of_halfAt_zero h ha
  case word => exact byteAt_of_wordAt_zero (ha ▸ h)
  case double =>
    obtain ⟨heven, hodd⟩ := eq_zero_of_append h
    obtain ha | ha := (evenWord_eq_iff _ _).1 ha
    · exact byteAt_of_wordAt_zero (ha ▸ heven)
    · exact byteAt_of_wordAt_zero (ha ▸ hodd)

/-- Settles O22: the zero of the format is stored, and so every byte of the operand is zero. -/
theorem zeroMemoryResult : Obligations.ZeroMemoryResult := by
  intro s u m e h i hi
  obtain ⟨t, ht, hwritten⟩ := runWord_storing (op := zeroMemoryOp m) h rfl
    fun k => zero_eq_zeroOf k ▸ format_zeroOf k
  rw [zero_eq_zeroOf] at hwritten
  refine ⟨t, (exec_zeroMemory hi s).trans ht, hwritten, fun hq => ?_⟩
  obtain rfl : u = s := h.bussed.2 hq
  obtain ⟨hframe, hdatum, hbytes, hparity⟩ := hwritten.stored (format_zeroOf _) hq
  refine ⟨hframe, fun a => ?_, hparity⟩
  cases ha : covers e a with
  | true => exact byteAt_of_datum_zero hdatum ha
  | false => exact hbytes a ha

/-! ## The registers of a file transfer (40_load_store.md R180) -/

/-- R[k] to R[7]. -/
def regsFrom (k : Nat) : List Reg := (List.range' k (8 - k)).map (BitVec.ofNat 3)

theorem fileRegs_eq (r : Reg) : fileRegs r = regsFrom r.toNat := by revert r; decide

theorem regsFrom_eq_cons {k : Nat} (h : k < 8) : regsFrom k = BitVec.ofNat 3 k :: regsFrom (k + 1) := by
  rw [regsFrom, show 8 - k = 8 - (k + 1) + 1 by omega, List.range'_succ]; rfl

theorem mem_fileRegs (r n : Reg) : n ∈ fileRegs r ↔ r.toNat ≤ n.toNat := by revert r n; decide

/-- Each register has its own word. -/
theorem fileWord_injective (w : WordAddr) (r : Reg) : Function.Injective (fileWord w r) := by
  intro n k h
  have hlow := congrArg (BitVec.extractLsb' 0 3) h
  rw [fileWord, fileWord, BitVec.extractLsb'_append_eq_right, BitVec.extractLsb'_append_eq_right] at hlow
  simpa using hlow

/-! ## Memory cycles and the CP -/

@[simp] theorem ticks_advance (s : State) (len : BitVec 18) (n : Nat) :
    (s.advance len).ticks n = (s.ticks n).advance len := by
  induction n with
  | zero => rfl
  | succ n ih => rw [ticks_succ, ticks_succ, ih, tick_advance]

theorem ticks_bussed (s : State) (n : Nat) : Bussed s (s.ticks n) := by
  induction n with
  | zero => exact .refl s
  | succ n ih => exact ih.tick

/-- What the bus does does not depend on the registers. -/
theorem tick_withRegs (s : State) (v : Vector Word 8) :
    ({ s with regs := v } : State).tick = { s.tick with regs := v } := by
  have h := tick_withCpu s (s.psw, v)
  simpa [State.withCpu] using h

/-! ## LF (40_load_store.md R180) -/

section LoadFile

variable (u : State) (w : WordAddr) (r : Reg)

/-- What the cycle for R[n] finds of its parity. -/
def State.fileBad (n : Reg) : Bool := (u.ticks (n.toNat - r.toNat + 1)).parityBadAt (fileWord w r n)

/-- What the cycle for R[n] reads. -/
def State.fileRead (n : Reg) : Word := (u.ticks (n.toNat - r.toNat + 1)).wordAt (fileWord w r n)

/-- The registers after the cycles for R[r] to R[k-1]. -/
def State.fileRegsLoaded (k : Nat) : Vector Word 8 :=
  Vector.ofFn fun n : Fin 8 =>
    if r.toNat ≤ n.val ∧ n.val < k then u.fileRead w r (BitVec.ofNat 3 n.val) else u.regs[n.val]

/-- The state after the cycles for R[r] to R[k-1]. -/
def State.fileLoaded (k : Nat) : State := { u.ticks (k - r.toNat) with regs := u.fileRegsLoaded w r k }

theorem reg_fileLoaded (k : Nat) (n : Reg) :
    (u.fileLoaded w r k).reg n = if r.toNat ≤ n.toNat ∧ n.toNat < k then u.fileRead w r n else u.reg n := by
  simp [State.reg, State.fileLoaded, State.fileRegsLoaded]

theorem fileLoaded_start : u.fileLoaded w r r.toNat = u := by
  have hregs : u.fileRegsLoaded w r r.toNat = u.regs := by
    ext n hn
    rw [State.fileRegsLoaded, Vector.getElem_ofFn, if_neg (by omega)]
  rw [State.fileLoaded, hregs, Nat.sub_self]; rfl

/-- One more cycle and its register. -/
theorem fileLoaded_succ {n : Reg} (h : r.toNat ≤ n.toNat) :
    (u.fileLoaded w r n.toNat).tick.setReg n (u.fileRead w r n) = u.fileLoaded w r (n.toNat + 1) := by
  have hregs : (u.fileRegsLoaded w r n.toNat).set n.toNat (u.fileRead w r n) n.isLt =
      u.fileRegsLoaded w r (n.toNat + 1) := by
    ext i hi
    by_cases hin : i = n.toNat
    · subst hin; simp [State.fileRegsLoaded, h]
    · have hlt : i < n.toNat + 1 ↔ i < n.toNat := by omega
      rw [Vector.getElem_set_ne _ _ (Ne.symm hin)]
      simp only [State.fileRegsLoaded, Vector.getElem_ofFn, hlt]
  rw [State.fileLoaded, tick_withRegs, State.fileLoaded, ← hregs, Nat.sub_add_comm h]; rfl

theorem readCycle_fileLoaded (n : Reg) :
    readCycle (u.fileLoaded w r n.toNat) (fileWord w r n) =
      if u.fileBad w r n then .error (.trap .memoryParity (u.fileLoaded w r n.toNat).tick)
      else .ok (u.fileLoaded w r n.toNat).tick := by
  have hq : (u.fileLoaded w r n.toNat).tick.parityBadAt (fileWord w r n) = u.fileBad w r n := by
    rw [State.fileLoaded, tick_withRegs]; rfl
  rw [readCycle, hq]

/-- The cycle for R[n] is the next one of the transfer. -/
theorem loadFile_step {n : Reg} (h : r.toNat ≤ n.toNat) :
    loadFile w r (regsFrom n.toNat) (u.fileLoaded w r n.toNat) =
      if u.fileBad w r n then .error (.trap .memoryParity (u.fileLoaded w r n.toNat).tick)
      else loadFile w r (regsFrom (n.toNat + 1)) (u.fileLoaded w r (n.toNat + 1)) := by
  have hw : (u.fileLoaded w r n.toNat).tick.wordAt (fileWord w r n) = u.fileRead w r n := by
    rw [State.fileLoaded, tick_withRegs]; rfl
  rw [regsFrom_eq_cons n.isLt, BitVec.ofNat_toNat, BitVec.setWidth_eq, loadFile, readCycle_fileLoaded,
    ← fileLoaded_succ u w r h, ← hw]
  cases u.fileBad w r n <;> rfl

/-- Good words are loaded one after the other. -/
theorem loadFile_good {k : Nat} (hr : r.toNat ≤ k) (hk : k ≤ 8)
    (hgood : ∀ n : Reg, r.toNat ≤ n.toNat → n.toNat < k → u.fileBad w r n = false) :
    loadFile w r (fileRegs r) u = loadFile w r (regsFrom k) (u.fileLoaded w r k) := by
  induction k, hr using Nat.le_induction with
  | base => rw [fileLoaded_start, fileRegs_eq]
  | succ k hr ih =>
    have hn : (BitVec.ofNat 3 k).toNat = k := by rw [BitVec.toNat_ofNat]; omega
    have hstep := loadFile_step u w r (n := BitVec.ofNat 3 k) (by rwa [hn])
    rw [hgood _ (by rwa [hn]) (by omega), hn] at hstep
    rw [ih (by omega) fun n hrn hnk => hgood n hrn (by omega)]
    exact hstep

theorem loadFile_all_good (hgood : ∀ n : Reg, r.toNat ≤ n.toNat → u.fileBad w r n = false) :
    loadFile w r (fileRegs r) u = .ok (u.fileLoaded w r 8) :=
  loadFile_good u w r (by omega) le_rfl fun n hn _ => hgood n hn

theorem loadFile_bad {k : Reg} (hr : r.toNat ≤ k.toNat)
    (hgood : ∀ n : Reg, r.toNat ≤ n.toNat → n.toNat < k.toNat → u.fileBad w r n = false)
    (hbad : u.fileBad w r k = true) :
    loadFile w r (fileRegs r) u = .error (.trap .memoryParity (u.fileLoaded w r k.toNat).tick) := by
  rw [loadFile_good u w r hr (by omega) hgood, loadFile_step u w r hr, hbad, if_pos rfl]

theorem fileBad_advance (len : BitVec 18) (n : Reg) : (u.advance len).fileBad w r n = u.fileBad w r n := by
  rw [State.fileBad, ticks_advance]; rfl

theorem fileLoaded_advance (len : BitVec 18) (k : Nat) :
    (u.advance len).fileLoaded w r k = (u.fileLoaded w r k).advance len := by
  have hregs : (u.advance len).fileRegsLoaded w r k = u.fileRegsLoaded w r k := by
    simp only [State.fileRegsLoaded, State.fileRead, ticks_advance]; rfl
  rw [State.fileLoaded, ticks_advance, hregs]; rfl

end LoadFile

theorem opLf_present {s u : State} {m : MemRef} {e : Ea} (he : effAddr s m = .ok (e, u)) (hp : u.present e.word = true)
    (r : Reg) : opLf r m s = loadFile e.word r (fileRegs r) u := by
  simp [opLf, he, (checkPresent_ok u e.word).2 hp, bind, Except.bind]

section ExecLf

variable {s u : State} {m : MemRef} {e : Ea} (he : effAddr s m = .ok (e, u)) (hp : u.present e.word = true) {r : Reg}
include he hp

theorem exec_lf_good (hgood : ∀ n : Reg, r.toNat ≤ n.toNat → u.fileBad e.word r n = false) :
    exec (.lf r m) s = .next ((u.fileLoaded e.word r 8).advance 2#18) := by
  refine runWord_ok (opLf r m) s _ ?_
  rw [opLf_present (effAddr_ok_advance he 2#18) hp, ← fileLoaded_advance]
  exact loadFile_all_good _ _ _ fun n hn => (fileBad_advance ..).trans (hgood n hn)

theorem exec_lf_bad {k : Reg} (hr : r.toNat ≤ k.toNat)
    (hgood : ∀ n : Reg, r.toNat ≤ n.toNat → n.toNat < k.toNat → u.fileBad e.word r n = false)
    (hbad : u.fileBad e.word r k = true) :
    exec (.lf r m) s = raise .memoryParity 2#18 (u.fileLoaded e.word r k.toNat).tick := by
  have hop : opLf r m (s.advance 2#18) =
      .error (.trap .memoryParity ((u.fileLoaded e.word r k.toNat).tick.advance 2#18)) := by
    rw [opLf_present (effAddr_ok_advance he 2#18) hp, ← tick_advance, ← fileLoaded_advance]
    exact loadFile_bad _ _ _ hr (fun n hrn hnk => (fileBad_advance ..).trans (hgood n hrn hnk))
      ((fileBad_advance ..).trans hbad)
  have hpsw : (u.fileLoaded e.word r k.toNat).tick.psw = s.psw := by
    rw [tick_psw]; exact ((effAddr_bussed he).trans (ticks_bussed u _)).psw
  change runWord (opLf r m) s = _
  rw [runWord, hop, complete_trap, setPc_advance, ← hpsw, setPc_self]

end ExecLf

/-! ## STF (40_load_store.md R181) -/

section StoreFile

variable (w : WordAddr) (r : Reg)

/-- The cycles of STF, one for each register of the list. -/
theorem storedFile_storeFile (ns : List Reg) (s : State) : StoredFile w r ns s (storeFile w r ns s) := by
  induction ns generalizing s with
  | nil => rfl
  | cons n ns ih => exact ⟨_, stored_writeWord s _ _, ih _⟩

theorem writeWord_quiet {s : State} (hq : s.within = []) (x : WordAddr) (v : Word) :
    s.writeWord x v = s.setWord x v := by
  rw [State.writeWord, tick_quiet s hq]

variable (ns : List Reg) {s : State} (hq : s.within = [])
include hq

theorem storeFile_frame :
    storeFile w r ns s =
      { s with mem := (storeFile w r ns s).mem, parityBad := (storeFile w r ns s).parityBad } := by
  induction ns generalizing s with
  | nil => rfl
  | cons n ns ih => rw [storeFile, writeWord_quiet hq]; exact ih (s := s.setWord _ _) hq

theorem storeFile_outside {x : WordAddr} (hx : ∀ n ∈ ns, x ≠ fileWord w r n) :
    (storeFile w r ns s).wordAt x = s.wordAt x ∧ (storeFile w r ns s).parityBadAt x = s.parityBadAt x := by
  induction ns generalizing s with
  | nil => exact ⟨rfl, rfl⟩
  | cons n ns ih =>
    have hne : x ≠ fileWord w r n := hx n List.mem_cons_self
    obtain ⟨hword, hparity⟩ := ih (s := s.setWord (fileWord w r n) (s.reg n)) hq fun k hk =>
      hx k (List.mem_cons_of_mem n hk)
    rw [storeFile, writeWord_quiet hq, hword, hparity, wordAt_setWord_ne _ _ hne, parityBadAt_setWord,
      bne_iff_ne.2 hne, Bool.and_true]
    exact ⟨rfl, rfl⟩

theorem storeFile_inside {n : Reg} (hn : n ∈ ns) : (storeFile w r ns s).wordAt (fileWord w r n) = s.reg n := by
  induction ns generalizing s with
  | nil => cases hn
  | cons k ns ih =>
    rw [storeFile, writeWord_quiet hq]
    by_cases htail : n ∈ ns
    · exact ih (s := s.setWord (fileWord w r k) (s.reg k)) hq htail
    · obtain rfl : n = k := (List.mem_cons.1 hn).resolve_right htail
      have houtside : ∀ k ∈ ns, fileWord w r n ≠ fileWord w r k := fun k hk h =>
        htail (fileWord_injective w r h ▸ hk)
      rw [(storeFile_outside w r ns (s := s.setWord (fileWord w r n) (s.reg n)) hq houtside).1, wordAt_setWord_same]

end StoreFile

theorem exec_stf {s u : State} {m : MemRef} {e : Ea} (h : Writable s m e u) (r : Reg) :
    exec (.stf r m) s = .next (storeFile e.word r (fileRegs r) (u.advance 2#18)) := by
  refine runWord_ok (opStf r m) s _ ?_
  have hopen : checkWrite (u.advance 2#18) e.word = .ok () := (checkWrite_ok _ _).2 h.2
  simp [opStf, effAddr_ok_advance h.1, hopen, bind, Except.bind, pure, Except.pure]

/-- Settles O20: the cycles of LF are counted through the list of registers up to the first bad word, and those of STF
store the registers one after the other. -/
theorem fileTransfers : Obligations.FileTransfers := by
  intro s u r m e he word at_
  have hreg : ∀ n, u.reg n = s.reg n := (effAddr_bussed he).reg
  refine ⟨fun hp => ⟨fun hgood => ?good, fun k hr hgood hbad => ?bad⟩, fun hw => ?store⟩
  case good =>
    refine ⟨_, exec_lf_good he hp hgood, ?_, fun n => ?_⟩
    · have hcount : (7#3).toNat - r.toNat + 1 = 8 - r.toNat := by
        have := r.isLt
        simp only [BitVec.toNat_ofNat]
        omega
      simp only [at_, hcount]; rfl
    · refine (reg_fileLoaded u e.word r 8 n).trans ?_
      simp only [n.isLt, and_true, hreg]; rfl
  case bad =>
    have hstate : (u.fileLoaded e.word r k.toNat).tick =
        { u.ticks (k.toNat - r.toNat + 1) with regs := u.fileRegsLoaded e.word r k.toNat } := tick_withRegs _ _
    refine ⟨_, exec_lf_bad he hp hr hgood hbad, ?_, fun n => ?_⟩
    · rw [hstate]
    · rw [hstate, ← hreg]
      exact reg_fileLoaded u e.word r k.toNat n
  case store =>
    refine ⟨_, exec_stf ⟨he, hw⟩ r, ?_, fun hq => ?_⟩
    · change StoredFile e.word r (regsFrom r.toNat) _ _
      rw [← fileRegs_eq]
      exact storedFile_storeFile ..
    · obtain rfl : u = s := (effAddr_bussed he).2 hq
      refine ⟨storeFile_frame _ _ _ hq, fun n hn => ?_, fun x hx => ?_⟩
      · exact storeFile_inside _ _ _ (s := u.advance 2#18) hq ((mem_fileRegs r n).2 hn)
      · exact storeFile_outside _ _ _ (s := u.advance 2#18) hq fun n hn => hx n ((mem_fileRegs r n).1 hn)

end Sys2Proof.Machine

/-!
Fixed-point arithmetic (41_fixed_point.md): sums and differences (O25, O26), products (O29), quotients (O30, O31), sign
extension and rounding (O33).
-/

namespace Sys2Proof.Machine

/-! ## Sums and differences of patterns (41_fixed_point.md R191) -/

theorem ofInt_sub_toInt {n : Nat} (x y : BitVec n) : BitVec.ofInt n (x.toInt - y.toInt) = x - y := by
  rw [Int.sub_eq_add_neg, BitVec.ofInt_add, BitVec.ofInt_neg, BitVec.ofInt_toInt, BitVec.ofInt_toInt,
    BitVec.sub_eq_add_neg]

/-- The difference of two patterns overflows exactly when the difference of their integers does not fit. -/
theorem subOverflow_eq {n : Nat} (x y : BitVec n) : subOverflow x y = outOfRange n (x.toInt - y.toInt) := by
  have hsigns : subOverflow x y = x.ssubOverflow y := by
    rw [BitVec.ssubOverflow_eq, subOverflow]
    cases x.msb <;> cases y.msb <;> simp
  rw [hsigns, BitVec.ssubOverflow, outOfRange, Bool.or_comm]

theorem addTo_one (s : State) (len : BitVec 18) (r : Reg) (w : Word) :
    (s.advance len).addTo r (.one w) = s.delivered len r ((s.reg r).toInt + w.toInt) .word := by
  rw [delivered_register (k := .word) _ _ _ _ nofun, ← addOverflow_eq, ofInt_add_toInt]
  rfl

theorem subtractFrom_one (s : State) (len : BitVec 18) (r : Reg) (w : Word) :
    (s.advance len).subtractFrom r (.one w) = s.delivered len r ((s.reg r).toInt - w.toInt) .word := by
  rw [delivered_register (k := .word) _ _ _ _ nofun, ← subOverflow_eq, ofInt_sub_toInt]
  rfl

theorem addTo_two (s : State) (len : BitVec 18) (r : Reg) (x : DWord) :
    (s.advance len).addTo r (.two x) = s.delivered len r ((s.pair r).toInt + x.toInt) .double := by
  rw [delivered_pair, ← addOverflow_eq, ofInt_add_toInt]
  rfl

theorem subtractFrom_two (s : State) (len : BitVec 18) (r : Reg) (x : DWord) :
    (s.advance len).subtractFrom r (.two x) = s.delivered len r ((s.pair r).toInt - x.toInt) .double := by
  rw [delivered_pair, ← subOverflow_eq, ofInt_sub_toInt]
  rfl

/-- What fits one register is delivered alike for every format of one register. -/
theorem delivered_eq_word (s : State) (len : BitVec 18) (r : Reg) (v : Int) {k : Format} (h : k ≠ .double) :
    s.delivered len r v k = s.delivered len r v .word := by
  rw [delivered_register _ _ _ _ h, delivered_register (k := .word) _ _ _ _ nofun]

theorem registerInt_eq_reg (s : State) (r : Reg) {k : Format} (h : k ≠ .double) :
    s.registerInt r k = (s.reg r).toInt := by
  cases k with
  | byte | half | word => rfl
  | double => exact absurd rfl h

theorem Bussed.registerInt {s v : State} (h : Bussed s v) (r : Reg) (k : Format) :
    v.registerInt r k = s.registerInt r k := by
  cases k with
  | byte | half | word => exact congrArg BitVec.toInt (h.reg r)
  | double => exact congrArg BitVec.toInt (h.pair r)

theorem addTo_register (s : State) (len : BitVec 18) (r : Reg) {d : Datum} (h : d.format ≠ .double) :
    (s.advance len).addTo r d.extend = s.delivered len r (s.registerInt r d.format + d.int) d.format := by
  obtain ⟨w, hw, hint⟩ := extend_eq_one h
  rw [hw, addTo_one, delivered_eq_word _ _ _ _ h, registerInt_eq_reg _ _ h, hint]

/-- The operand added is the extended one (41 R190). -/
theorem addTo_extend (s : State) (len : BitVec 18) (r : Reg) (d : Datum) :
    (s.advance len).addTo r d.extend = s.delivered len r (s.registerInt r d.format + d.int) d.format := by
  cases d with
  | byte | half | word => exact addTo_register s len r nofun
  | double x => exact addTo_two s len r x

theorem subtractFrom_register (s : State) (len : BitVec 18) (r : Reg) {d : Datum} (h : d.format ≠ .double) :
    (s.advance len).subtractFrom r d.extend = s.delivered len r (s.registerInt r d.format - d.int) d.format := by
  obtain ⟨w, hw, hint⟩ := extend_eq_one h
  rw [hw, subtractFrom_one, delivered_eq_word _ _ _ _ h, registerInt_eq_reg _ _ h, hint]

/-- The operand subtracted is the extended one (41 R190). -/
theorem subtractFrom_extend (s : State) (len : BitVec 18) (r : Reg) (d : Datum) :
    (s.advance len).subtractFrom r d.extend = s.delivered len r (s.registerInt r d.format - d.int) d.format := by
  cases d with
  | byte | half | word => exact subtractFrom_register s len r nofun
  | double x => exact subtractFrom_two s len r x

/-! ## An operand in memory (41_fixed_point.md R192 to R195, R203 to R206) -/

theorem exec_addMemory {i : Instr} {r : Reg} {m : MemRef} (hi : i ∈ [Instr.admb r m, .admh r m, .admw r m, .admd r m])
    (s : State) : exec i s = runWord (addMemoryOp r m) s := by
  simp only [List.mem_cons, List.not_mem_nil, or_false] at hi
  rcases hi with rfl | rfl | rfl | rfl <;> rfl

theorem exec_subtractMemory {i : Instr} {r : Reg} {m : MemRef}
    (hi : i ∈ [Instr.sumb r m, .sumh r m, .sumw r m, .sumd r m]) (s : State) :
    exec i s = runWord (subtractMemoryOp r m) s := by
  simp only [List.mem_cons, List.not_mem_nil, or_false] at hi
  rcases hi with rfl | rfl | rfl | rfl <;> rfl

/-- Settles O25: the bus leaves the register or pair that the operand is added to or subtracted from. -/
theorem addSubtractMemory : Obligations.AddSubtractMemory := by
  intro s v r m d h
  refine ⟨fun i hi => ?add, fun i hi => ?subtract⟩
  case add =>
    rw [exec_addMemory hi, ← h.bussed.registerInt, ← addTo_extend]
    exact runWord_withOperand h fun s d => s.addTo r d.extend
  case subtract =>
    rw [exec_subtractMemory hi, ← h.bussed.registerInt, ← subtractFrom_extend]
    exact runWord_withOperand h fun s d => s.subtractFrom r d.extend

/-! ## Operands in registers and immediates (41_fixed_point.md R196, R197, R202, R207 to R209, R287, R344, R345) -/

theorem toInt_sextHalf (h : Half) : (sextHalf h).toInt = h.toInt := BitVec.toInt_signExtend_of_le (by decide)

theorem deliver_negated (s : State) (len : BitVec 18) (r : Reg) (w : Word) :
    (s.advance len).deliver r (w == minusFullScale 32) (.one (-w)) = s.delivered len r (-w.toInt) .word :=
  deliverNegative_extend s len r (.word w)

/-- A pattern delivered to one register with an exception of its own: CC2 to CC4 follow the pattern. -/
theorem deliver_pattern (s : State) (len : BitVec 18) (r : Reg) (exc : Bool) (w : Word) :
    (s.advance len).deliver r exc (.one w) =
      ((s.placed len r w).setCC (orderCC exc w.toInt)).requestArithmetic exc := by
  rw [State.deliver, scc_eq_orderCC]; rfl

/-- Settles O26: each is one addition, subtraction or negation of a word; a masked one masks the exact result and
reports the overflow before masking. -/
theorem registerArithmetic : Obligations.RegisterArithmetic := by
  intro s d src r imm n y x z
  refine ⟨?adr, ?sur, ?trn, ?adi, ?sui, ?abr, fun p hp => ?masked⟩
  case adr => exact congrArg Host.Outcome.next (addTo_one s 1#18 d (s.reg src))
  case sur => exact congrArg Host.Outcome.next (subtractFrom_one s 1#18 d (s.reg src))
  case trn => exact congrArg Host.Outcome.next (deliver_negated s 1#18 d (s.reg src))
  case adi => rw [← toInt_sextHalf, ← addTo_one]; rfl
  case sui => rw [← toInt_sextHalf, ← subtractFrom_one]; rfl
  case abr => rw [← bitWord_eq_oneBit, ← addTo_one]; rfl
  case masked =>
    rw [← deliver_pattern]
    simp only [List.mem_cons, List.not_mem_nil, or_false] at hp
    rcases hp with rfl | rfl | rfl
    · rw [← addOverflow_eq, ofInt_add_toInt]; rfl
    · rw [← subOverflow_eq, ofInt_sub_toInt]; rfl
    · rw [← beq_minusFullScale (by decide), BitVec.ofInt_neg, BitVec.ofInt_toInt]; rfl

/-! ## Products (41_fixed_point.md R210 to R215) -/

theorem withWordOperand_reads {m : MemRef} {s v : State} {d : Datum} {w : Word} (h : Reads s m d v)
    (hw : d.extend = .one w) (f : State → Word → State) : withWordOperand m f s = .ok (f v w) := by
  obtain ⟨e, u, he, hp, hq, rfl, rfl⟩ := h
  have hk : e.format ≠ .double := fun hk => by rw [State.seen, hk] at hw; cases hw
  simp [withWordOperand, he, hk, fetch, checkPresent, hp, hq, hw, bind, Except.bind]

/-- An operation on an operand that is no doubleword goes on with the word that stands for it. -/
theorem runWord_withWordOperand {s v : State} {m : MemRef} {d : Datum} (h : Reads s m d v) (hd : d.format ≠ .double)
    (f : State → Word → State) :
    ∃ w : Word, w.toInt = d.int ∧ runWord (withWordOperand m f) s = .next (f (v.advance 2#18) w) := by
  obtain ⟨w, hw, hint⟩ := extend_eq_one hd
  exact ⟨w, hint, runWord_ok _ _ _ (withWordOperand_reads (h.advance 2#18) hw f)⟩

/-- A product of two words is far inside 64 bits. -/
theorem product_fits (a b : Word) : outOfRange 64 (a.toInt * b.toInt) = false := by
  have hlo := BitVec.le_toInt_mul_toInt (x := a) (y := b)
  have hhi := BitVec.toInt_mul_toInt_le (x := a) (y := b)
  rw [outOfRange_eq_false_iff]
  omega

theorem multiply_delivered (s : State) (len : BitVec 18) (r : Reg) (w : Word) :
    (s.advance len).multiply r w = s.delivered len r (w.toInt * (s.reg (pairOdd r)).toInt) .double := by
  rw [delivered_pair, product_fits]; rfl

theorem exec_multiplyMemory {i : Instr} {r : Reg} {m : MemRef} (hi : i ∈ [Instr.mpmb r m, .mpmh r m, .mpmw r m])
    (s : State) : exec i s = runWord (multiplyMemoryOp r m) s := by
  simp only [List.mem_cons, List.not_mem_nil, or_false] at hi
  rcases hi with rfl | rfl | rfl <;> rfl

/-- Settles O29: each delivers the exact product, which always fits. -/
theorem multiplyResult : Obligations.MultiplyResult := by
  intro s v r d src imm m x
  refine ⟨fun h hx i hi => ?memory, ?register, ?immediate, product_fits⟩
  case memory =>
    obtain ⟨w, hint, hrun⟩ := runWord_withWordOperand h hx fun s w => s.multiply r w
    rw [exec_multiplyMemory hi, ← hint, ← h.bussed.reg, ← multiply_delivered]
    exact hrun
  case register => exact congrArg Host.Outcome.next (multiply_delivered s 1#18 d (s.reg src))
  case immediate => rw [← toInt_sextHalf, ← multiply_delivered]; rfl

/-! ## Quotients (41_fixed_point.md R216 to R221) -/

theorem toInt_ofInt_of_fits {n : Nat} (hn : 0 < n) {v : Int} (h : outOfRange n v = false) :
    (BitVec.ofInt n v).toInt = v :=
  let ⟨hlo, hhi⟩ := (outOfRange_eq_false_iff n v).1 h
  BitVec.toInt_ofInt_eq_self hn hlo hhi

theorem Divides.divisor_ne_zero {n v q rem : Int} (h : Divides n v q rem) : v ≠ 0 := by
  obtain ⟨-, hlt, -, -⟩ := h
  rintro rfl
  exact absurd hlt (Nat.not_lt_zero _)

theorem Divides.quotient_fits {n v q rem : Int} (h : Divides n v q rem) : outOfRange 32 q = false :=
  let ⟨_, _, _, hfits⟩ := h
  hfits

/-- The quotient truncated toward zero and the remainder with the dividend's sign are unique. -/
theorem Divides.eq_tdiv_tmod {n v q rem : Int} (h : Divides n v q rem) : q = n.tdiv v ∧ rem = n.tmod v := by
  have hv := h.divisor_ne_zero
  obtain ⟨hn, hlt, hsign, -⟩ := h
  have hsum : rem + v * q = n := by rw [hn]; ring
  have hunique : n.tdiv v = q ∧ n.tmod v = rem := by
    rcases mul_nonneg_iff.1 hsign with ⟨hrem, hpos⟩ | ⟨hrem, hneg⟩
    · exact (Int.tdiv_tmod_unique hpos hv).2 ⟨hsum, hrem, by omega⟩
    · exact (Int.tdiv_tmod_unique' hneg hv).2 ⟨hsum, by omega, hrem⟩
  exact ⟨hunique.1.symm, hunique.2.symm⟩

theorem divideFits_eq (n v : Int) : divideFits n v = (v != 0 && !outOfRange 32 (n.tdiv v)) := by
  rw [divideFits, Bool.and_assoc, outOfRange, Bool.not_or, ← decide_not, ← decide_not]
  congr 3 <;> exact propext (by omega)

theorem noQuotient_iff (n v : Int) : NoQuotient n v ↔ divideFits n v = false := by
  rw [divideFits_eq, NoQuotient]
  simp only [Bool.and_eq_false_iff, bne_eq_false_iff_eq, Bool.not_eq_false']

theorem Divides.divideFits_eq_true {n v q rem : Int} (h : Divides n v q rem) : divideFits n v = true := by
  obtain ⟨rfl, -⟩ := h.eq_tdiv_tmod
  rw [divideFits_eq, bne_iff_ne.2 h.divisor_ne_zero, h.quotient_fits]; rfl

/-- With a quotient the remainder and the quotient go to the pair, and the quotient to the condition code. -/
theorem divide_divided {s : State} {r : Reg} {w : Word} {q rem : Int} (h : Divides (s.pair r).toInt w.toInt q rem)
    (len : BitVec 18) : (s.advance len).divide r w = s.divided len r q rem := by
  have hpair : (s.advance len).pair r = s.pair r := rfl
  have hquotient := toInt_ofInt_of_fits (by decide) h.quotient_fits
  obtain ⟨rfl, rfl⟩ := h.eq_tdiv_tmod
  simp only [State.divide, hpair, h.divideFits_eq_true, if_true, scc_eq_orderCC, hquotient]
  rfl

/-- Without one the pair is left with a pattern that nothing fixes (log 10). -/
theorem divide_undivided {s : State} {r : Reg} {w : Word} (h : NoQuotient (s.pair r).toInt w.toInt)
    (len : BitVec 18) : (s.advance len).divide r w = s.undivided len r (Config.dividePair s.draws) := by
  have hfits : divideFits ((s.advance len).pair r).toInt w.toInt = false := (noQuotient_iff _ _).1 h
  simp only [State.divide, hfits, Bool.false_eq_true, if_false, scc_eq_orderCC]
  rfl

theorem exec_divideMemory {i : Instr} {r : Reg} {m : MemRef} (hi : i ∈ [Instr.dvmb r m, .dvmh r m, .dvmw r m])
    (s : State) : exec i s = runWord (divideMemoryOp r m) s := by
  simp only [List.mem_cons, List.not_mem_nil, or_false] at hi
  rcases hi with rfl | rfl | rfl <;> rfl

/-- Settles O30: quotient and remainder are unique, so they are those of the model's division. -/
theorem divideResult : Obligations.DivideResult := by
  intro s v r d src imm m x q rem
  refine ⟨fun h hx hdiv i hi => ?memory, fun hdiv => ?register, fun hdiv => ?immediate⟩
  case memory =>
    obtain ⟨w, hint, hrun⟩ := runWord_withWordOperand h hx fun s w => s.divide r w
    rw [← hint, ← h.bussed.pair] at hdiv
    rw [exec_divideMemory hi, ← divide_divided hdiv]
    exact hrun
  case register => exact congrArg Host.Outcome.next (divide_divided hdiv 1#18)
  case immediate =>
    rw [← toInt_sextHalf] at hdiv
    exact congrArg Host.Outcome.next (divide_divided hdiv 2#18)

/-- Settles O31: the model's division finds no quotient exactly where none exists. -/
theorem divideOverflow : Obligations.DivideOverflow := by
  intro s v r d src imm m x
  refine ⟨fun h hx hdiv i hi => ?memory, fun hdiv => ?register, fun hdiv => ?immediate⟩
  case memory =>
    obtain ⟨w, hint, hrun⟩ := runWord_withWordOperand h hx fun s w => s.divide r w
    rw [← hint, ← h.bussed.pair] at hdiv
    exact ⟨_, by rw [exec_divideMemory hi, ← divide_undivided hdiv]; exact hrun⟩
  case register => exact ⟨_, congrArg Host.Outcome.next (divide_undivided hdiv 1#18)⟩
  case immediate =>
    rw [← toInt_sextHalf] at hdiv
    exact ⟨_, congrArg Host.Outcome.next (divide_undivided hdiv 2#18)⟩

/-! ## Sign extension and rounding (41_fixed_point.md R222, R223) -/

theorem delivered_drawn (s : State) (len : BitVec 18) (r : Reg) (v : Int) (k : Format) :
    s.drawn.delivered len r v k = (s.delivered len r v k).drawn := by
  unfold State.delivered
  cases outOfRange k.bits v <;> cases k <;> rfl

/-- All ones or all zeros (41 R222). -/
theorem deliver_sign (s : State) (len : BitVec 18) (r : Reg) (sign : Bool) :
    (s.advance len).deliver r false (.one (if sign then 0xFFFFFFFF#32 else 0#32)) =
      s.placed len r (BitVec.ofInt 32 (if sign then -1 else 0)) := by
  rw [deliver_one]
  cases sign <;> rfl

/-- One more than a word fits unless the word is 7FFFFFFF (41 R223). -/
theorem beq_maximum (x : Word) : (x == 0x7FFFFFFF#32) = outOfRange 32 (x.toInt + 1) := by
  have hlo := BitVec.le_toInt x
  have hhi := BitVec.toInt_lt (x := x)
  have hmax : (0x7FFFFFFF#32).toInt = 2 ^ 31 - 1 := rfl
  rw [Bool.eq_iff_iff, beq_iff_eq, ← BitVec.toInt_inj, hmax]
  simp only [outOfRange, Bool.or_eq_true, decide_eq_true_eq]
  omega

/-- The sign bit is added, with the exception of a sum that does not fit (41 R223). -/
theorem deliver_rounded (s : State) (len : BitVec 18) (r : Reg) (x : Word) (sign : Bool) :
    (if sign then (s.advance len).deliver r (x == 0x7FFFFFFF#32) (.one (x + 1#32))
      else (s.advance len).deliver r false (.one x)) =
      s.delivered len r (x.toInt + if sign then 1 else 0) .word := by
  rw [delivered_register (k := .word) _ _ _ _ nofun]
  cases sign with
  | true => rw [if_pos rfl, if_pos rfl, beq_maximum, BitVec.ofInt_add, BitVec.ofInt_toInt]; rfl
  | false => rw [if_neg nofun, if_neg nofun, Int.add_zero, outOfRange_toInt, BitVec.ofInt_toInt]

theorem nextSign_of_ne {r : Reg} (h : r ≠ 7#3) (s : State) :
    s.nextSign r = (decide ((s.reg (r + 1#3)).toInt < 0), s) := by
  rw [State.nextSign, if_neg h, BitVec.msb_eq_toInt]

/-- ES with the sign it reads, in the state after reading it. -/
theorem exec_es {s t : State} {r : Reg} {sign : Bool} (h : (s.advance 1#18).nextSign r = (sign, t.advance 1#18)) :
    exec (.es r) s = .next (t.placed 1#18 r (BitVec.ofInt 32 (if sign then -1 else 0))) := by
  refine runHalf_ok (opEs r) s _ ?_
  rw [opEs, h, ← deliver_sign]

/-- RND with the sign it reads, in the state after reading it. -/
theorem exec_rnd {s t : State} {r : Reg} {sign : Bool} (h : (s.advance 1#18).nextSign r = (sign, t.advance 1#18)) :
    exec (.rnd r) s = .next (t.delivered 1#18 r ((s.reg r).toInt + if sign then 1 else 0) .word) := by
  refine runHalf_ok (opRnd r) s _ ?_
  rw [opRnd, h, ← deliver_rounded]; rfl

/-- Settles O33: the sign is that of the next register, and for R7 a free one. -/
theorem extendAndRound : Obligations.ExtendAndRound := by
  intro s r
  have hlast : (s.advance 1#18).nextSign 7#3 = (Config.signBeyondR7 s.draws, s.drawn.advance 1#18) := rfl
  refine ⟨fun hr => ?next, ⟨_, exec_es hlast⟩, ⟨Config.signBeyondR7 s.draws, ?last⟩⟩
  case next =>
    have hsign := nextSign_of_ne hr (s.advance 1#18)
    have hes := exec_es hsign
    have hrnd := exec_rnd hsign
    simp only [decide_eq_true_eq] at hes hrnd
    exact ⟨hes, hrnd⟩
  case last => rw [← delivered_drawn]; exact exec_rnd hlast

end Sys2Proof.Machine

/-!
Floating point (42_floating_point.md): the results of the eight instructions (O34), and the encoding (O35).
-/

namespace Sys2Proof.Machine

/-! ## The encoding (42_floating_point.md R230, R231) -/

theorem floatEncode_true (n e f : Nat) : floatEncode n true e f = -floatEncode n false e f := rfl

/-- Complementing a positive pattern other than zero sets its sign bit. -/
theorem msb_neg_of_msb_false {n : Nat} {v : BitVec n} (hsign : v.msb = false) (hv : v ≠ 0#n) : (-v).msb = true := by
  have hmin : v ≠ BitVec.intMin n := fun h => by
    have hn : n ≠ 0 := fun h0 => hv (by subst h0; exact BitVec.of_length_zero)
    rw [h, BitVec.msb_intMin, decide_eq_false_iff_not] at hsign
    omega
  rw [BitVec.msb_neg_of_ne_intMin_of_ne_zero hmin hv, hsign]
  rfl

section Encoding

variable {n e f : Nat} (hn : 8 ≤ n) (he : e < 128) (hf : f < 2 ^ fractionBits n)
include hn he hf

/-- The exponent and the fraction leave the sign bit free. -/
theorem exponent_fraction_lt : e * 2 ^ fractionBits n + f < 2 ^ (n - 1) := by
  have hwidth : 2 ^ (n - 1) = 128 * 2 ^ fractionBits n := by
    rw [fractionBits, show n - 1 = 7 + (n - 8) by omega, Nat.pow_add]
  calc e * 2 ^ fractionBits n + f
      < (e + 1) * 2 ^ fractionBits n := by rw [Nat.succ_mul]; omega
    _ ≤ 128 * 2 ^ fractionBits n := Nat.mul_le_mul_right _ he
    _ = 2 ^ (n - 1) := hwidth.symm

theorem toNat_floatEncode_false : (floatEncode n false e f).toNat = e * 2 ^ fractionBits n + f :=
  Nat.mod_eq_of_lt ((exponent_fraction_lt hn he hf).trans_le (Nat.pow_le_pow_right (by decide) (n.sub_le 1)))

theorem msb_floatEncode_false : (floatEncode n false e f).msb = false := by
  rw [BitVec.msb_eq_false_iff_two_mul_lt, toNat_floatEncode_false hn he hf]
  have hlt := exponent_fraction_lt hn he hf
  have hpow : 2 ^ n = 2 * 2 ^ (n - 1) := by rw [← Nat.pow_succ', Nat.succ_eq_add_one, Nat.sub_add_cancel (by omega)]
  omega

variable (h0 : e ≠ 0 ∨ f ≠ 0)
include h0

theorem floatEncode_false_ne_zero : floatEncode n false e f ≠ 0#n := by
  rw [ne_eq, ← BitVec.toNat_inj, toNat_floatEncode_false hn he hf, BitVec.toNat_zero, Nat.add_eq_zero_iff,
    Nat.mul_eq_zero]
  have hpow := Nat.two_pow_pos (fractionBits n)
  omega

theorem msb_floatEncode (neg : Bool) : (floatEncode n neg e f).msb = neg := by
  cases neg with
  | false => exact msb_floatEncode_false hn he hf
  | true => exact msb_neg_of_msb_false (msb_floatEncode_false hn he hf) (floatEncode_false_ne_zero hn he hf h0)

/-- The magnitude of a number is the encoding without the sign (42 R230). -/
theorem magnitude_floatEncode (neg : Bool) : magnitude (floatEncode n neg e f) = floatEncode n false e f := by
  rw [magnitude, msb_floatEncode hn he hf h0]
  cases neg with
  | false => rfl
  | true => exact BitVec.neg_neg

theorem exponentOf_floatEncode (neg : Bool) : exponentOf (floatEncode n neg e f) = e := by
  rw [exponentOf, magnitude_floatEncode hn he hf h0, toNat_floatEncode_false hn he hf, Nat.mul_comm,
    Nat.mul_add_div (Nat.two_pow_pos _), Nat.div_eq_of_lt hf, Nat.add_zero, Nat.mod_eq_of_lt he]

theorem fractionOf_floatEncode (neg : Bool) : fractionOf (floatEncode n neg e f) = f := by
  rw [fractionOf, magnitude_floatEncode hn he hf h0, toNat_floatEncode_false hn he hf, Nat.mul_comm,
    Nat.mul_add_mod, Nat.mod_eq_of_lt hf]

theorem floatEncode_roundTrip (neg : Bool) :
    (floatEncode n neg e f).msb = neg ∧ exponentOf (floatEncode n neg e f) = e ∧
      fractionOf (floatEncode n neg e f) = f ∧ floatEncode n true e f = -floatEncode n false e f :=
  ⟨msb_floatEncode hn he hf h0 neg, exponentOf_floatEncode hn he hf h0 neg, fractionOf_floatEncode hn he hf h0 neg,
    floatEncode_true n e f⟩

end Encoding

/-- Settles O35: both widths are instances of the round trip at any width that holds a sign and an exponent. -/
theorem floatEncodeRoundTrip : Obligations.FloatEncodeRoundTrip := fun neg _ _ hx =>
  ⟨fun hf h0 => floatEncode_roundTrip (by decide) hx hf h0 neg,
    fun hf h0 => floatEncode_roundTrip (by decide) hx hf h0 neg⟩

/-! ## Results (42_floating_point.md R233 to R242) -/

theorem requestArithmetic_drawn (s : State) (exc : Bool) :
    (s.requestArithmetic exc).drawn = s.drawn.requestArithmetic exc := by
  cases exc <;> rfl

/-- A word delivered with an exception of its own and a free value drawn. -/
theorem deliver_one_drawn (s : State) (len : BitVec 18) (r : Reg) (exc : Bool) (w : Word) :
    ((s.advance len).deliver r exc (.one w)).drawn =
      ((s.after len (orderCC exc w.toInt)).setReg r w).drawn.requestArithmetic exc := by
  rw [← requestArithmetic_drawn, State.deliver, scc_eq_orderCC]; rfl

/-- A doubleword delivered with an exception of its own and a free value drawn. -/
theorem deliver_two_drawn (s : State) (len : BitVec 18) (r : Reg) (exc : Bool) (x : DWord) :
    ((s.advance len).deliver r exc (.two x)).drawn =
      ((s.after len (orderCC exc x.toInt)).setPair r x).drawn.requestArithmetic exc := by
  rw [← requestArithmetic_drawn, State.deliver, scc_eq_orderCC]; rfl

theorem deliverFloatWord_done (s : State) (r : Reg) (x : FloatResult 32) :
    FloatWordDone s ((s.advance 2#18).deliverFloatWord r x) r x := by
  cases x with
  | exact v => exact deliver_one s 2#18 r v
  | exception => exact ⟨_, deliver_one_drawn s 2#18 r true _⟩
  | anyValue => exact ⟨_, _, deliver_one_drawn s 2#18 r _ _⟩

theorem deliverFloatDouble_done (s : State) (r : Reg) (x : FloatResult 64) :
    FloatDoubleDone s ((s.advance 2#18).deliverFloatDouble r x) r x := by
  cases x with
  | exact v => exact deliver_two s 2#18 r v
  | exception => exact ⟨_, deliver_two_drawn s 2#18 r true _⟩
  | anyValue => exact ⟨_, _, deliver_two_drawn s 2#18 r _ _⟩

section Operands

variable {s u : State} {m : MemRef} {e : Ea} (he : effAddr s m = .ok (e, u)) (hopt : s.cfg.optFp = true)
  (hp : u.present e.word = true) (f : {n : Nat} → BitVec n → BitVec n → FloatResult n) (r : Reg)
include he hopt hp

theorem floatOp_word (hc : e.c = 0#2) (hq : u.tick.parityBadAt e.word = false) :
    floatOp f r m s = .ok (u.tick.deliverFloatWord r (f (s.reg r) (u.tick.wordAt e.word))) := by
  have hreg := (effAddr_bussed he).tick.reg r
  simp [floatOp, hopt, he, hc, readWord_eq, hp, hq, hreg, bind, Except.bind]

/-- The odd word is read first (42 R233). -/
theorem floatOp_double (hc : e.c = 2#2) (hodd : u.tick.parityBadAt (oddWord e.word) = false)
    (heven : u.tick.tick.parityBadAt (evenWord e.word) = false) :
    floatOp f r m s = .ok (u.tick.tick.deliverFloatDouble r
      (f (s.pair r) (u.tick.tick.wordAt (evenWord e.word) ++ u.tick.wordAt (oddWord e.word)))) := by
  have hp' : u.tick.present e.word = true := ((tick_bussed u).present _).trans hp
  have hpair := (effAddr_bussed he).tick.tick.pair r
  simp [floatOp, hopt, he, hc, readWord_eq, hp, hp', hodd, heven, hpair, bind, Except.bind]

theorem runWord_floatOp_word (hc : e.c = 0#2) (hq : u.tick.parityBadAt e.word = false) :
    runWord (floatOp f r m) s =
      .next ((u.tick.advance 2#18).deliverFloatWord r (f (s.reg r) (u.tick.wordAt e.word))) := by
  have he' := effAddr_ok_advance he 2#18
  rw [runWord_ok _ _ _ (floatOp_word he' hopt hp f r hc (by rw [tick_advance]; exact hq)), tick_advance]
  rfl

theorem runWord_floatOp_double (hc : e.c = 2#2) (hodd : u.tick.parityBadAt (oddWord e.word) = false)
    (heven : u.tick.tick.parityBadAt (evenWord e.word) = false) :
    runWord (floatOp f r m) s = .next ((u.tick.tick.advance 2#18).deliverFloatDouble r
      (f (s.pair r) (u.tick.tick.wordAt (evenWord e.word) ++ u.tick.wordAt (oddWord e.word)))) := by
  have he' := effAddr_ok_advance he 2#18
  rw [runWord_ok _ _ _ (floatOp_double he' hopt hp f r hc (by rw [tick_advance]; exact hodd)
    (by rw [tick_advance, tick_advance]; exact heven)), tick_advance, tick_advance]
  rfl

end Operands

/-- The word and the doubleword instruction of an operation are that operation alike: the effective format selects the
width, not the code (42 R233). -/
theorem exec_floatForm {n : Nat} {r : Reg} {m : MemRef} {x y : BitVec n} {p : Instr × FloatResult n}
    (hp : p ∈ [(Instr.adfw r m, floatAdd x y), (.adfd r m, floatAdd x y), (.sufw r m, floatSubtract x y),
      (.sufd r m, floatSubtract x y), (.mpfw r m, floatMultiply x y), (.mpfd r m, floatMultiply x y),
      (.dvfw r m, floatDivide x y), (.dvfd r m, floatDivide x y)]) :
    ∃ f : {n : Nat} → BitVec n → BitVec n → FloatResult n,
      p.2 = f x y ∧ ∀ s, exec p.1 s = runWord (floatOp f r m) s := by
  simp only [List.mem_cons, List.not_mem_nil, or_false] at hp
  rcases hp with rfl | rfl | rfl | rfl | rfl | rfl | rfl | rfl <;> exact ⟨_, rfl, fun _ => rfl⟩

/-- Settles O34: the operand is read in the bus states of its cycles, and the result of the operation on it is delivered
whatever it is. -/
theorem floatCompletes : Obligations.FloatCompletes := by
  intro s u r m e hopt he hpresent
  refine ⟨fun hc hq p hp => ?word, fun hc hodd heven p hp => ?double⟩
  case word =>
    obtain ⟨f, hf, hexec⟩ := exec_floatForm hp
    exact ⟨_, (hexec s).trans (runWord_floatOp_word he hopt hpresent f r hc hq),
      hf ▸ deliverFloatWord_done u.tick r _⟩
  case double =>
    obtain ⟨f, hf, hexec⟩ := exec_floatForm hp
    exact ⟨_, (hexec s).trans (runWord_floatOp_double he hopt hpresent f r hc hodd heven),
      hf ▸ deliverFloatDouble_done u.tick.tick r _⟩

end Sys2Proof.Machine

/-!
The logical instructions (43_logical.md): with an operand in memory (O38, O39), and with those of the register transfers
that deliver a pattern alike (46_register_transfer.md), on registers (O40).
-/

namespace Sys2Proof.Machine

/-! ## A field at the right end of a register (43_logical.md R251 to R253) -/

/-- A field put in place of the low `n` bits keeps the bits to its left. -/
theorem keep_append_eq_ofNat {k n : Nat} (w : BitVec (k + n)) (v : BitVec n) :
    w.extractLsb' n k ++ v = BitVec.ofNat (k + n) (w.toNat / 2 ^ n * 2 ^ n + v.toNat) := by
  have hkept : (w.extractLsb' n k).toNat = w.toNat / 2 ^ n := by
    have hlt : w.toNat / 2 ^ n < 2 ^ k := Nat.div_lt_of_lt_mul (by rw [Nat.mul_comm, ← Nat.pow_add]; exact w.isLt)
    rw [BitVec.extractLsb'_toNat, Nat.shiftRight_eq_div_pow, Nat.mod_eq_of_lt hlt]
  have happend : (w.extractLsb' n k ++ v).toNat = w.toNat / 2 ^ n * 2 ^ n + v.toNat := by
    rw [BitVec.toNat_append, ← Nat.shiftLeft_add_eq_or_of_lt v.isLt, hkept, Nat.shiftLeft_eq]
  rw [← happend, BitVec.ofNat_toNat, BitVec.setWidth_eq]

theorem toNat_and_field {n : Nat} (b : BitVec n) (w : Word) :
    (b &&& w.extractLsb' 0 n).toNat = b.toNat &&& w.toNat % 2 ^ n := by
  rw [BitVec.toNat_and, BitVec.extractLsb'_toNat, Nat.shiftRight_zero]

/-- A field is tested as a number that is never negative. -/
theorem fieldCC_eq_orderCC {n : Nat} (v : BitVec n) : fieldCC v = orderCC false (v.toNat : Int) := by
  have hpos : (v != 0#n) = decide (0 < (v.toNat : Int)) := by
    rw [Bool.eq_iff_iff, bne_iff_ne, decide_eq_true_iff, Ne, ← BitVec.toNat_inj, BitVec.toNat_zero]
    omega
  have hzero : (v == 0#n) = decide ((v.toNat : Int) = 0) := by
    rw [Bool.eq_iff_iff, beq_iff_eq, decide_eq_true_iff, ← BitVec.toNat_inj, BitVec.toNat_zero]
    omega
  have hnonneg : decide ((v.toNat : Int) < 0) = false := decide_eq_false (by omega)
  rw [fieldCC, orderCC, hpos, hzero, hnonneg]

theorem andInto_byte (s : State) (len : BitVec 18) (r : Reg) (b : Byte) :
    (s.advance len).andInto r (.byte b) =
      (s.after len (orderCC false ((b.toNat &&& (s.reg r).toNat % 2 ^ 8 : Nat) : Int))).setReg r
        (BitVec.ofNat 32 ((s.reg r).toNat / 2 ^ 8 * 2 ^ 8 + (b.toNat &&& (s.reg r).toNat % 2 ^ 8))) := by
  rw [← toNat_and_field, ← fieldCC_eq_orderCC, ← keep_append_eq_ofNat (k := 24) (n := 8)]
  rfl

theorem andInto_half (s : State) (len : BitVec 18) (r : Reg) (h : Half) :
    (s.advance len).andInto r (.half h) =
      (s.after len (orderCC false ((h.toNat &&& (s.reg r).toNat % 2 ^ 16 : Nat) : Int))).setReg r
        (BitVec.ofNat 32 ((s.reg r).toNat / 2 ^ 16 * 2 ^ 16 + (h.toNat &&& (s.reg r).toNat % 2 ^ 16))) := by
  rw [← toNat_and_field, ← fieldCC_eq_orderCC, ← keep_append_eq_ofNat (k := 16) (n := 16)]
  rfl

/-! ## An operand in memory (43_logical.md R251 to R255, R257 to R260, R263 to R266) -/

theorem exec_andMemory {i : Instr} {r : Reg} {m : MemRef} (hi : i ∈ [Instr.anmb r m, .anmh r m, .anmw r m, .anmd r m])
    (s : State) : exec i s = runWord (andMemoryOp r m) s := by
  simp only [List.mem_cons, List.not_mem_nil, or_false] at hi
  rcases hi with rfl | rfl | rfl | rfl <;> rfl

theorem exec_orMemory {i : Instr} {r : Reg} {m : MemRef} (hi : i ∈ [Instr.ormb r m, .ormh r m, .ormw r m, .ormd r m])
    (s : State) : exec i s = runWord (orMemoryOp r m) s := by
  simp only [List.mem_cons, List.not_mem_nil, or_false] at hi
  rcases hi with rfl | rfl | rfl | rfl <;> rfl

theorem exec_xorMemory {i : Instr} {r : Reg} {m : MemRef} (hi : i ∈ [Instr.eomb r m, .eomh r m, .eomw r m, .eomd r m])
    (s : State) : exec i s = runWord (xorMemoryOp r m) s := by
  simp only [List.mem_cons, List.not_mem_nil, or_false] at hi
  rcases hi with rfl | rfl | rfl | rfl <;> rfl

theorem orInto_one (s : State) (len : BitVec 18) (r : Reg) (w : Word) :
    (s.advance len).orInto r (.one w) = s.placed len r (s.reg r ||| w) := by
  rw [← deliver_one, BitVec.or_comm]; rfl

theorem orInto_two (s : State) (len : BitVec 18) (r : Reg) (x : DWord) :
    (s.advance len).orInto r (.two x) = s.placedPair len r (s.pair r ||| x) := by
  rw [← deliver_two, BitVec.or_comm]; rfl

theorem xorInto_one (s : State) (len : BitVec 18) (r : Reg) (w : Word) :
    (s.advance len).xorInto r (.one w) = s.placed len r (s.reg r ^^^ w) := by
  rw [← deliver_one, BitVec.xor_comm]; rfl

theorem xorInto_two (s : State) (len : BitVec 18) (r : Reg) (x : DWord) :
    (s.advance len).xorInto r (.two x) = s.placedPair len r (s.pair r ^^^ x) := by
  rw [← deliver_two, BitVec.xor_comm]; rfl

/-- Settles O38: a byte or halfword replaces its field alone, a word or doubleword is delivered whole; the bus leaves
the register or pair. -/
theorem andMemory : Obligations.AndMemory := by
  intro s v r m d h i hi
  rw [exec_andMemory hi, ← h.bussed.reg, ← h.bussed.pair]
  refine (runWord_withOperand h fun s d => s.andInto r d).trans (congrArg _ ?_)
  cases d with
  | byte b => exact andInto_byte ..
  | half x => exact andInto_half ..
  | word w => exact deliver_one ..
  | double x => exact deliver_two ..

/-- Settles O39: the operand, with zeros to its left, is combined with the whole register or pair, which the bus
leaves. -/
theorem orXorMemory : Obligations.OrXorMemory := by
  intro s v r m d h
  rw [← h.bussed.reg, ← h.bussed.pair]
  refine ⟨fun i hi => ?or, fun i hi => ?xor⟩
  case or =>
    rw [exec_orMemory hi]
    refine (runWord_withOperand h fun s d => s.orInto r d.zeroExtend).trans (congrArg _ ?_)
    cases d with
    | byte b => dsimp only; rw [BitVec.ofNat_toNat]; exact orInto_one ..
    | half x => dsimp only; rw [BitVec.ofNat_toNat]; exact orInto_one ..
    | word w => exact orInto_one ..
    | double x => exact orInto_two ..
  case xor =>
    rw [exec_xorMemory hi]
    refine (runWord_withOperand h fun s d => s.xorInto r d.zeroExtend).trans (congrArg _ ?_)
    cases d with
    | byte b => dsimp only; rw [BitVec.ofNat_toNat]; exact xorInto_one ..
    | half x => dsimp only; rw [BitVec.ofNat_toNat]; exact xorInto_one ..
    | word w => exact xorInto_one ..
    | double x => exact xorInto_two ..

/-! ## Operands in registers (43_logical.md R256, R261, R262, R268, R269; 46_register_transfer.md R342, R343, R350,
R351) -/

/-- Settles O40: each delivers one pattern, computed from the registers as they were; the logical ones name R[s]
first. -/
theorem registerLogicalAndTransfer : Obligations.RegisterLogicalAndTransfer := by
  intro s d src x y k p hp
  rw [← deliver_one]
  simp only [List.mem_cons, List.not_mem_nil, or_false] at hp
  rcases hp with rfl | rfl | rfl | rfl | rfl | htransfer
  · rw [BitVec.and_comm x]; rfl
  · rw [BitVec.or_comm x]; rfl
  · rw [BitVec.or_comm x]; rfl
  · rw [BitVec.xor_comm x]; rfl
  · rw [BitVec.xor_comm x]; rfl
  · rcases htransfer with rfl | rfl | rfl | rfl <;> rfl

end Sys2Proof.Machine

/-!
Compares and branches (45_compare_branch.md): the compares (O43), the branches under a condition and BL (O44), the
branches after incrementing (O45), BRI (O46, O47).
-/

namespace Sys2Proof.Machine

/-! ## Compares (45_compare_branch.md R300 to R311) -/

/-- The order of two patterns is that of their difference and zero, taken without a bound. -/
theorem arithmeticCompare_eq {n : Nat} (x y : BitVec n) : arithmeticCompare x y = orderCC false (x.toInt - y.toInt) := by
  have hpos : decide (y.toInt < x.toInt) = decide (0 < x.toInt - y.toInt) := decide_eq_decide.2 (by omega)
  have hneg : decide (x.toInt < y.toInt) = decide (x.toInt - y.toInt < 0) := decide_eq_decide.2 (by omega)
  have hzero : (x == y) = decide (x.toInt - y.toInt = 0) := by
    rw [Bool.eq_iff_iff, beq_iff_eq, decide_eq_true_iff, ← BitVec.toInt_inj]
    omega
  rw [arithmeticCompare, orderCC, hpos, hneg, hzero]

theorem compareWith_one (s : State) (len : BitVec 18) (r : Reg) (w : Word) :
    (s.advance len).compareWith r (.one w) = s.after len (orderCC false ((s.reg r).toInt - w.toInt)) := by
  rw [← arithmeticCompare_eq]; rfl

theorem compareWith_two (s : State) (len : BitVec 18) (r : Reg) (x : DWord) :
    (s.advance len).compareWith r (.two x) = s.after len (orderCC false ((s.pair r).toInt - x.toInt)) := by
  rw [← arithmeticCompare_eq]; rfl

theorem compareWith_register (s : State) (len : BitVec 18) (r : Reg) {d : Datum} (h : d.format ≠ .double) :
    (s.advance len).compareWith r d.extend = s.after len (orderCC false (s.registerInt r d.format - d.int)) := by
  obtain ⟨w, hw, hint⟩ := extend_eq_one h
  rw [hw, compareWith_one, registerInt_eq_reg _ _ h, hint]

/-- The operand compared is the extended one (45 R300). -/
theorem compareWith_extend (s : State) (len : BitVec 18) (r : Reg) (d : Datum) :
    (s.advance len).compareWith r d.extend = s.after len (orderCC false (s.registerInt r d.format - d.int)) := by
  cases d with
  | byte | half | word => exact compareWith_register s len r nofun
  | double x => exact compareWith_two s len r x

/-- The patterns differ in no bit of the mask. -/
theorem masked_xor_beq_zero {n : Nat} (x y k : BitVec n) :
    ((x ^^^ y) &&& k == 0#n) = decide (x &&& k = y &&& k) := by
  have hdistrib : (x ^^^ y) &&& k = (x &&& k) ^^^ (y &&& k) := by ext i hi; simp [Bool.and_xor_distrib_right]
  rw [hdistrib, Bool.eq_iff_iff, beq_iff_eq, decide_eq_true_iff, BitVec.xor_eq_zero_iff]

theorem maskedCompare_xor {n : Nat} (x y k : BitVec n) :
    maskedCompare ((x ^^^ y) &&& k) = ⟨false, false, false, decide (x &&& k = y &&& k)⟩ := by
  rw [maskedCompare, masked_xor_beq_zero]

theorem append_inj_iff {n k : Nat} {x x' : BitVec n} {y y' : BitVec k} : x ++ y = x' ++ y' ↔ x = x' ∧ y = y' := by
  refine ⟨fun h => ⟨?_, ?_⟩, fun ⟨hx, hy⟩ => by rw [hx, hy]⟩
  · simpa only [BitVec.extractLsb'_append_eq_left] using congrArg (BitVec.extractLsb' k n) h
  · simpa only [BitVec.extractLsb'_append_eq_right] using congrArg (BitVec.extractLsb' 0 k) h

/-- Under a mask of both words the doubleword of a pair agrees exactly when each word does (45 R310). -/
theorem pair_and_mask_eq_iff (s : State) (r : Reg) (x : DWord) (k : Word) :
    s.pair r &&& (k ++ k) = x &&& (k ++ k) ↔
      s.reg (pairEven r) &&& k = x.extractLsb' 32 32 &&& k ∧ s.reg (pairOdd r) &&& k = x.extractLsb' 0 32 &&& k := by
  rw [State.pair, BitVec.and_append, and_mask_pair, append_inj_iff]

theorem compareMasked_one (s : State) (len : BitVec 18) (r : Reg) (w : Word) :
    (s.advance len).compareMasked r (.one w) =
      s.after len ⟨false, false, false, decide (s.reg r &&& s.reg 4#3 = w &&& s.reg 4#3)⟩ := by
  rw [← maskedCompare_xor]; rfl

theorem compareMasked_two (s : State) (len : BitVec 18) (r : Reg) (x : DWord) :
    (s.advance len).compareMasked r (.two x) = s.after len ⟨false, false, false,
      decide (s.reg (pairEven r) &&& s.reg 4#3 = x.extractLsb' 32 32 &&& s.reg 4#3) &&
        decide (s.reg (pairOdd r) &&& s.reg 4#3 = x.extractLsb' 0 32 &&& s.reg 4#3)⟩ := by
  rw [← Bool.decide_and, ← decide_eq_decide.2 (pair_and_mask_eq_iff s r x (s.reg 4#3)), ← maskedCompare_xor]; rfl

theorem exec_compareMemory {i : Instr} {r : Reg} {m : MemRef}
    (hi : i ∈ [Instr.camb r m, .camh r m, .camw r m, .camd r m]) (s : State) :
    exec i s = runWord (compareMemoryOp r m) s := by
  simp only [List.mem_cons, List.not_mem_nil, or_false] at hi
  rcases hi with rfl | rfl | rfl | rfl <;> rfl

theorem exec_compareMaskedMemory {i : Instr} {r : Reg} {m : MemRef}
    (hi : i ∈ [Instr.cmmb r m, .cmmh r m, .cmmw r m, .cmmd r m]) (s : State) :
    exec i s = runWord (compareMaskedMemoryOp r m) s := by
  simp only [List.mem_cons, List.not_mem_nil, or_false] at hi
  rcases hi with rfl | rfl | rfl | rfl <;> rfl

/-- Settles O43: each compares a register or pair, which the bus leaves, with an extended operand. -/
theorem compareRule : Obligations.CompareRule := by
  intro s v r d src imm m x
  refine ⟨fun h i hi => ?memory, ?car, ?ci, fun h i hi => ?masked, ?cmr⟩
  case memory =>
    rw [exec_compareMemory hi, ← h.bussed.registerInt, ← compareWith_extend]
    exact runWord_withOperand h fun s d => s.compareWith r d.extend
  case car => exact congrArg Host.Outcome.next (compareWith_one s 1#18 d (s.reg src))
  case ci => rw [← toInt_sextHalf, ← compareWith_one]; rfl
  case masked =>
    simp only [exec_compareMaskedMemory hi, ← h.bussed.reg]
    refine (runWord_withOperand h fun s d => s.compareMasked r d.extend).trans (congrArg _ ?_)
    cases x with
    | byte b => dsimp only; rw [BitVec.ofNat_toNat]; exact compareMasked_one ..
    | half x => exact compareMasked_one ..
    | word w => exact compareMasked_one ..
    | double x => exact compareMasked_two ..
  case cmr => exact congrArg Host.Outcome.next (compareMasked_one s 1#18 d (s.reg src))

/-! ## Branches under a condition and BL (45_compare_branch.md R314 to R319) -/

theorem ofBits_extract (w : Word) :
    CC.ofBits (w.extractLsb' 27 4) = ⟨bitAt w 1, bitAt w 2, bitAt w 3, bitAt w 4⟩ := by
  simp [CC.ofBits, bitAt]

theorem branchPsw_direct (p : Psw) {e : Ea} (h : e.last = none) :
    branchPsw p e = { p with pc := e.raw.extractLsb' 1 18 } := by
  rw [branchPsw, h]

theorem branchPsw_indirect (p : Psw) {e : Ea} {w : Word} (h : e.last = some w) :
    branchPsw p e = { p.loadStatus w with pc := e.raw.extractLsb' 1 18 } := by
  rw [branchPsw, h, Psw.loadStatus, ofBits_extract]

/-- The transfer replaces the program count, so the count before it does not matter (45 R314). -/
theorem jump_advance (s : State) (len : BitVec 18) (e : Ea) :
    (s.advance len).jump e = { s with psw := branchPsw s.psw e } := by
  unfold State.jump
  cases h : e.last with
  | none => rw [branchPsw_direct s.psw h]; rfl
  | some w => rw [branchPsw_indirect s.psw h]; rfl

/-- Each of the four is `branchIf` under its condition. -/
theorem exec_branch {i : Instr} {d : BitVec 3} {m : MemRef} (hi : i ∈ [Instr.bu m, .bct d m, .bcf d m, .bft m])
    (s : State) : exec i s = runWord (branchIf (branchTaken s.psw.cc (s.reg 4#3) i) m) s := by
  simp only [List.mem_cons, List.not_mem_nil, or_false] at hi
  rcases hi with rfl | rfl | rfl | rfl
  · rfl
  · rw [← conditionTrue_eq]; rfl
  · rw [← not_conditionTrue_eq]; rfl
  · rw [← functionTrue_eq]; rfl

theorem runWord_branchIf_taken {s u : State} {m : MemRef} {e : Ea} (h : effAddr s m = .ok (e, u)) :
    runWord (branchIf true m) s = .next { u with psw := branchPsw s.psw e } := by
  rw [← (effAddr_bussed h).psw, ← jump_advance u 2#18 e]
  exact runWord_ok _ _ _ ((branchIf_ok ..).2 (.inr ⟨rfl, e, _, effAddr_ok_advance h 2#18, rfl⟩))

theorem exec_bl {s u : State} {m : MemRef} {e : Ea} (h : effAddr s m = .ok (e, u)) :
    exec (.bl m) s = .next (((u.advance 2#18).setReg 0#3 (u.advance 2#18).psw.word).jump e) := by
  refine runWord_ok _ _ _ ?_
  simp [opBl, effAddr_ok_advance h, bind, Except.bind, pure, Except.pure]

/-- Settles O44: the condition decides whether the address is formed; the bus leaves the PSWR that is transferred. -/
theorem branchesAndLink : Obligations.BranchesAndLink := by
  intro s m d
  refine ⟨fun i hi => ⟨fun hc => ?untaken, fun hc e u h => ?taken⟩, fun e u h => ?link⟩
  case untaken =>
    rw [exec_branch hi, hc]
    exact runWord_ok _ _ _ ((branchIf_ok ..).2 (.inl ⟨rfl, rfl⟩))
  case taken => rw [exec_branch hi, hc, runWord_branchIf_taken h]
  case link =>
    rw [exec_bl h, ← (effAddr_bussed h).psw]
    exact congrArg _ (jump_advance (u.setReg 0#3 _) 2#18 e)

/-! ## Branches after incrementing (45_compare_branch.md R320 to R323) -/

theorem exec_branchIncrement {i : Instr} {r : Reg} {m : MemRef}
    (hi : i ∈ [Instr.bib r m, .bih r m, .biw r m, .bid r m]) (s : State) :
    exec i s = runWord (branchIncrement (incrementOf i) r m) s := by
  simp only [List.mem_cons, List.not_mem_nil, or_false] at hi
  rcases hi with rfl | rfl | rfl | rfl <;> rfl

section BranchIncrement

variable {s : State} {r : Reg} {k : Word} (m : MemRef)

theorem branchIncrement_zero (h : s.reg r + k = 0#32) : branchIncrement k r m s = .ok (s.setReg r (s.reg r + k)) :=
  if_pos h

theorem branchIncrement_nonzero (h : s.reg r + k ≠ 0#32) {e : Ea} {u : State}
    (he : effAddr s { m with x := 0#2 } = .ok (e, u)) :
    branchIncrement k r m s = .ok ((u.setReg r (s.reg r + k)).setPc (e.raw.extractLsb' 1 18)) := by
  simp [branchIncrement, h, he, bind, Except.bind, pure, Except.pure]

end BranchIncrement

/-- Settles O45: the incremented register decides; the program count is replaced where the branch is taken. -/
theorem branchAfterIncrement : Obligations.BranchAfterIncrement := by
  intro s r m i hi
  have hsum : BitVec.ofNat 32 ((s.reg r).toNat + (incrementOf i).toNat) = s.reg r + incrementOf i := by
    rw [BitVec.ofNat_add, BitVec.ofNat_toNat, BitVec.ofNat_toNat, BitVec.setWidth_eq, BitVec.setWidth_eq]
  rw [exec_branchIncrement hi, hsum]
  refine ⟨fun h => ?zero, fun h e u he => ?nonzero⟩
  case zero => exact runWord_ok _ _ _ (branchIncrement_zero (s := s.advance 2#18) m h)
  case nonzero =>
    exact runWord_ok _ _ _ ((branchIncrement_nonzero (s := s.advance 2#18) m h (effAddr_ok_advance he 2#18)).trans rfl)

/-! ## The active level of highest priority (45_compare_branch.md R324, 60_exceptions.md R451) -/

theorem mem_allLevels (n : Level) : n ∈ allLevels :=
  List.mem_map.2 ⟨n.toNat, List.mem_range.2 n.isLt, by rw [BitVec.ofNat_toNat, BitVec.setWidth_eq]⟩

/-- The one level whose priority is above that of all others asked about. -/
theorem highest_eq_some {s : State} {ns : List Level} {n : Level} (hn : n ∈ ns)
    (hmin : ∀ k ∈ ns, k ≠ n → s.prio n < s.prio k) : s.highest ns = some n := by
  induction ns with
  | nil => cases hn
  | cons k ks ih =>
    obtain ⟨-, htail⟩ := List.forall_mem_cons.1 hmin
    unfold State.highest
    by_cases hk : k = n
    · subst hk
      cases hm : s.highest ks with
      | none => rfl
      | some m =>
        have hle : ¬ s.prio m < s.prio k := by
          by_cases hmk : m = k
          · rw [hmk]; exact lt_irrefl _
          · exact (htail m (mem_of_highest hm) hmk).asymm
        simp only [hle, if_false]
    · have hks : n ∈ ks := (List.mem_cons.1 hn).resolve_left (Ne.symm hk)
      simp only [ih hks htail, hmin k List.mem_cons_self hk, if_true]

theorem resetHighestActive_of_none {s : State} (h : ∀ n, hasLevel s.active n = false) : s.resetHighestActive = s := by
  have hnone : (allLevels.filter fun n => hasLevel s.active n) = [] := by simp [h]
  rw [State.resetHighestActive, hnone]
  rfl

theorem resetHighestActive_of_highest {s : State} {n : Level} (hn : hasLevel s.active n = true)
    (hmin : ∀ k, hasLevel s.active k = true → k ≠ n → s.prio n < s.prio k) :
    s.resetHighestActive = { s with active := setLevel s.active n false } := by
  have hhighest : s.highest (allLevels.filter fun k => hasLevel s.active k) = some n :=
    highest_eq_some (List.mem_filter.2 ⟨mem_allLevels n, hn⟩) fun k hk => hmin k (List.mem_filter.1 hk).2
  rw [State.resetHighestActive, hhighest]

/-- Only latches are reset. -/
theorem resetHighestActive_eq (s : State) : s.resetHighestActive = { s with active := s.resetHighestActive.active } := by
  unfold State.resetHighestActive
  split <;> rfl

theorem levelSet_ext {l l' : LevelSet} (h : ∀ n, hasLevel l n = hasLevel l' n) : l = l' := by
  apply BitVec.eq_of_getLsbD_eq
  intro i hi
  have hlevel : (BitVec.ofNat 7 i).toNat = i := by rw [BitVec.toNat_ofNat]; omega
  simpa only [hasLevel, hlevel] using h (BitVec.ofNat 7 i)

/-! ## BRI (45_compare_branch.md R324) -/

/-- The PSWR that BRI leaves: that of a branch, with bit 0 too from an indirect word. -/
def returnPsw (p : Psw) (e : Ea) : Psw :=
  { branchPsw p e with priv := match e.last with
    | none => p.priv
    | some w => bitAt w 0 }

theorem returnPsw_direct (p : Psw) {e : Ea} (h : e.last = none) :
    returnPsw p e = { p with pc := e.raw.extractLsb' 1 18 } := by
  rw [returnPsw, branchPsw_direct p h, h]

theorem returnPsw_indirect (p : Psw) {e : Ea} {w : Word} (h : e.last = some w) :
    returnPsw p e = { p.loadStatus w with priv := bitAt w 0, pc := e.raw.extractLsb' 1 18 } := by
  rw [returnPsw, branchPsw_indirect p h, h]

/-- Priorities do not depend on the program count. -/
theorem highest_setPc (s : State) (pc : BitVec 18) (ns : List Level) : (s.setPc pc).highest ns = s.highest ns := by
  induction ns with
  | nil => rfl
  | cons k ks ih => rw [State.highest, State.highest, ih]; rfl

theorem resetHighestActive_setPc (s : State) (pc : BitVec 18) :
    (s.setPc pc).resetHighestActive = s.resetHighestActive.setPc pc := by
  unfold State.resetHighestActive
  rw [highest_setPc, State.setPc_active]
  split <;> rfl

theorem resetHighestActive_psw (s : State) : s.resetHighestActive.psw = s.psw := by
  rw [resetHighestActive_eq]

theorem returnFromInterrupt_advance (s : State) (len : BitVec 18) (e : Ea) :
    returnFromInterrupt (s.advance len) e = { s.resetHighestActive with psw := returnPsw s.psw e } := by
  unfold returnFromInterrupt
  rw [State.advance, resetHighestActive_setPc, ← resetHighestActive_psw]
  cases h : e.last with
  | none => rw [returnPsw_direct _ h]; rfl
  | some w => rw [returnPsw_indirect _ h]; rfl

theorem exec_bri {s u : State} {m : MemRef} {e : Ea} (hs : s.unprivileged = false) (h : effAddr s m = .ok (e, u)) :
    exec (.bri m) s = .next { u.resetHighestActive with psw := returnPsw s.psw e } := by
  have hs' : privilegedOnly (s.advance 2#18) = .ok () := (privilegedOnly_ok _).2 hs
  rw [← (effAddr_bussed h).psw, ← returnFromInterrupt_advance u 2#18]
  refine runWord_ok _ _ _ ?_
  simp [opBri, hs', effAddr_ok_advance h, bind, Except.bind, pure, Except.pure]

theorem Bussed.active {s u : State} (h : Bussed s u) : u.active = s.active := by rw [h.1]

theorem Bussed.prio {s u : State} (h : Bussed s u) (n : Level) : u.prio n = s.prio n := by
  unfold State.prio; rw [h.cfg]

/-- Settles O46: the bus leaves the active latches and the priorities, and they decide which latch is reset. -/
theorem briResult : Obligations.BriResult := by
  intro s u m e hs h
  have hbus := effAddr_bussed h
  refine ⟨_, exec_bri hs h, ?frame, rfl, fun hnone => ?none, fun n hn hmin k => ?highest⟩
  case frame => rw [resetHighestActive_eq]
  case none =>
    rw [← hbus.active] at hnone ⊢
    rw [resetHighestActive_of_none hnone]
  case highest =>
    simp only [← hbus.active, ← hbus.prio] at hn hmin ⊢
    rw [resetHighestActive_of_highest hn hmin, hasLevel_setLevel]
    by_cases hk : k = n <;> simp [hk]

/-! ## BRI after an entry (45_compare_branch.md R324, 60_exceptions.md R446, R447) -/

/-- The fields of the register, each behind those to its right (10_state.md R28). -/
theorem word_pc (p : Psw) : p.word.extractLsb' 1 18 = p.pc :=
  (BitVec.extractLsb'_append_eq_of_le (by decide)).trans BitVec.extractLsb'_append_eq_right

theorem word_mid (p : Psw) : p.word.extractLsb' 19 8 = p.mid :=
  (BitVec.extractLsb'_append_eq_of_le (by decide)).trans
    ((BitVec.extractLsb'_append_eq_of_le (by decide)).trans BitVec.extractLsb'_append_eq_right)

theorem word_cc (p : Psw) : CC.ofBits (p.word.extractLsb' 27 4) = p.cc := by
  have hbits : p.word.extractLsb' 27 4 = p.cc.bits :=
    (BitVec.extractLsb'_append_eq_of_le (by decide)).trans
      ((BitVec.extractLsb'_append_eq_of_le (by decide)).trans
        ((BitVec.extractLsb'_append_eq_of_le (by decide)).trans BitVec.extractLsb'_append_eq_right))
  rw [hbits]
  obtain ⟨c1, c2, c3, c4⟩ := p.cc
  revert c1 c2 c3 c4
  decide

theorem word_priv (p : Psw) : bitAt p.word 0 = p.priv := by
  change (BitVec.ofBool p.priv ++ p.cc.bits ++ p.mid ++ p.pc ++ 0#1).getLsbD 31 = p.priv
  simp only [BitVec.getLsbD_append]
  simp

/-- As an address word the register has bits 9 and 10 for its index field and bit 11 for its Indirect bit (20 R67). -/
theorem ofWord_word {p : Psw} (h : p.mid.extractLsb' 1 3 = 0#3) :
    (MemRef.ofWord p.word).x = 0#2 ∧ (MemRef.ofWord p.word).ind = false := by
  have hbit : ∀ k < 3, p.word.getLsbD (20 + k) = false := fun k hk => by
    have hfield : p.mid.getLsbD (1 + k) = false := by simpa [hk] using congrArg (BitVec.getLsbD · k) h
    rw [← word_mid, BitVec.getLsbD_extractLsb'] at hfield
    simpa [show 1 + k < 8 by omega, ← Nat.add_assoc] using hfield
  refine ⟨?_, hbit 0 (by decide)⟩
  apply BitVec.eq_of_getLsbD_eq
  intro k hk
  simpa [MemRef.ofWord, hk, ← Nat.add_assoc] using hbit (1 + k) (by omega)

/-- The register comes back from its own word (45 R324). -/
theorem returnPsw_word (p q : Psw) {e : Ea} (hlast : e.last = some p.word)
    (hraw : e.raw.extractLsb' 1 18 = p.word.extractLsb' 1 18) : returnPsw q e = p := by
  rw [returnPsw_indirect q hlast, hraw, Psw.loadStatus, word_pc, word_mid, word_cc, word_priv]

section Entered

variable {s t : State} {n : Level} {trapForm : Bool} (h : Entered s t n trapForm)
include h

theorem Entered.unchanged : t.cfg = s.cfg ∧ t.regs = s.regs ∧ t.protect = s.protect ∧ t.enabled = s.enabled := by
  obtain ⟨-, -, -, -, -, ht⟩ := h
  rw [ht]
  simp

/-- The routine that an entry begins is privileged. -/
theorem Entered.unprivileged : t.unprivileged = false := by
  obtain ⟨-, -, -, -, -, ht⟩ := h
  rw [ht]
  simp [State.unprivileged]

theorem Entered.present (w : WordAddr) : t.present w = s.present w := by
  obtain ⟨hcfg, -, hprotect, -⟩ := h.unchanged
  simp only [State.present, State.kindOf, State.portProtected, State.port2, State.protectReg, hcfg, hprotect]

theorem Entered.prio (k : Level) : t.prio k = s.prio k := by
  obtain ⟨hcfg, -⟩ := h.unchanged
  simp only [State.prio, hcfg]

/-- The save location reads as the PSWR that the entry has stored, with good parity. -/
theorem Entered.saved :
    let l := saveLocation (s.tick.wordAt (dedicatedAddr n trapForm).wordAddr)
    t.wordAt l = s.psw.word ∧ t.parityBadAt l = false := by
  obtain ⟨hword, -, hparity, -⟩ := h
  exact ⟨hword, by simp [hparity]⟩

/-- The entered level is the active one of highest priority, and its latch is all that the return resets. -/
theorem Entered.resetHighestActive (hidle : hasLevel s.active n = false)
    (hmin : ∀ k, hasLevel s.active k = true → s.prio n < s.prio k) :
    t.resetHighestActive = { t with active := s.active } := by
  have ⟨_, _, _, _, hactive, _⟩ := h
  have hn : hasLevel t.active n = true := by simp [hactive]
  have hmin' : ∀ k, hasLevel t.active k = true → k ≠ n → t.prio n < t.prio k := fun k hk hkn => by
    rw [h.prio, h.prio]
    exact hmin k (by simpa [hactive, hkn] using hk)
  have hback : setLevel t.active n false = s.active := levelSet_ext fun k => by
    by_cases hk : k = n
    · simp [hk, hidle]
    · simp [hk, hactive]
  rw [resetHighestActive_of_highest hn hmin', hback]

end Entered

/-- The address that one level of indirection through a word `l` forms where that word holds a PSWR. -/
theorem effAddr_through_psw {s : State} {l : WordAddr} {p : Psw} (f : Bool) (hquiet : s.within = [])
    (hlimit : 0 < s.cfg.chainLimit) (hp : s.present l = true) (hq : s.parityBadAt l = false)
    (hw : s.wordAt l = p.word) (hmid : p.mid.extractLsb' 1 3 = 0#3) :
    ∃ e, effAddr s ⟨0#2, true, f, l.byteAddr⟩ = .ok (e, s) ∧ e.last = some p.word ∧
      e.raw.extractLsb' 1 18 = p.word.extractLsb' 1 18 := by
  have hl : (s.indexed ⟨0#2, true, f, l.byteAddr⟩).wordAddr = l := wordAddr_append l 0#2
  obtain ⟨hx, hind⟩ := ofWord_word hmid
  have heff := effAddr_one_level (s := s) (m := ⟨0#2, true, f, l.byteAddr⟩) rfl hlimit (by rwa [hl])
    (by rwa [hl, tick_quiet s hquiet]) (w := p.word) (by rwa [hl, tick_quiet s hquiet]) hind
  rw [tick_quiet s hquiet] at heff
  refine ⟨_, heff, rfl, ?_⟩
  have hraw : s.indexed (MemRef.ofWord p.word) = p.word.extractLsb' 0 19 := if_pos hx
  rw [hraw]
  ext i hi
  simp

/-- Settles O47: the indirect word is the PSWR that the entry has stored, and the level that BRI resets is the entered
one. -/
theorem briUndoesEntry : Obligations.BriUndoesEntry := by
  intro s t n trapForm f pc he hquiet hidle hmin hmid hlimit l
  obtain ⟨⟨-, -, hpresent, -⟩, -⟩ := enter_ok s t n trapForm he
  have h := entered_of_enter he
  obtain ⟨hword, hparity⟩ := h.saved
  have ⟨_, hbytes, _⟩ := h
  obtain ⟨hcfg, hregs, hprotect, henabled⟩ := h.unchanged
  obtain ⟨e, heff, hlast, hraw⟩ := effAddr_through_psw (s := t.setPc pc) (l := l) f hquiet
    (by rwa [State.setPc_cfg, hcfg]) ((h.present l).trans hpresent) hparity hword hmid
  have hexec := exec_bri (s := t.setPc pc) h.unprivileged heff
  rw [resetHighestActive_setPc, h.resetHighestActive hidle hmin, returnPsw_word _ _ hlast hraw] at hexec
  exact ⟨_, hexec, rfl, rfl, henabled, hregs, hprotect, hbytes⟩

end Sys2Proof.Machine

/-!
Register transfers (46_register_transfer.md): the exchanges (O48), TRSW (O50).
-/

namespace Sys2Proof.Machine

/-! ## Exchanges (46_register_transfer.md R346, R347) -/

/-- Two registers written one after the other both hold what was written, also where they are the same register and
the values agree. -/
theorem reg_setReg_setReg (s : State) {d src : Reg} {x y : Word} (h : d = src → y = x) :
    ((s.setReg d y).setReg src x).reg d = y ∧ ((s.setReg d y).setReg src x).reg src = x ∧
      ∀ k, k ≠ d → k ≠ src → ((s.setReg d y).setReg src x).reg k = s.reg k := by
  refine ⟨?_, reg_setReg_same _ src x, fun k hd hsrc => ?_⟩
  · by_cases hds : d = src
    · subst hds
      rw [reg_setReg_same, h rfl]
    · rw [reg_setReg_ne _ _ _ _ hds, reg_setReg_same]
  · rw [reg_setReg_ne _ _ _ _ hsrc, reg_setReg_ne _ _ _ _ hd]

theorem exec_xcr (d src : Reg) (s : State) : exec (.xcr d src) s =
    .next (((s.after 1#18 (orderCC false (s.reg d).toInt)).setReg d (s.reg src)).setReg src (s.reg d)) := by
  rw [← scc_eq_orderCC]; rfl

theorem exec_xcrm (d src : Reg) (s : State) : exec (.xcrm d src) s =
    .next (((s.after 1#18 (orderCC false (s.reg d &&& s.reg 4#3).toInt)).setReg d (s.reg src &&& s.reg 4#3)).setReg src
      (s.reg d &&& s.reg 4#3)) := by
  rw [← scc_eq_orderCC]; rfl

/-- Settles O48: both values are computed from the registers as they were, and agree where `d = s`. -/
theorem exchange : Obligations.Exchange := by
  intro s d src p hp
  simp only [List.mem_cons, List.not_mem_nil, or_false] at hp
  rcases hp with rfl | rfl
  · exact ⟨_, exec_xcr d src s, rfl, reg_setReg_setReg _ fun h => by rw [h]⟩
  · exact ⟨_, exec_xcrm d src s, rfl, reg_setReg_setReg _ fun h => by rw [h]⟩

/-! ## TRSW (46_register_transfer.md R358) -/

theorem bits_ofBits (b : BitVec 4) : (CC.ofBits b).bits = b := by revert b; decide

theorem word_bits (p : Psw) : p.word.extractLsb' 27 4 = p.cc.bits := by
  rw [← word_cc, bits_ofBits]

/-- Bit 31 reads 0 (10_state.md R31). -/
theorem word_getLsbD_zero (p : Psw) : p.word.getLsbD 0 = false := by
  rw [Psw.word, BitVec.getLsbD_append]; rfl

/-- Words with the same field have the same bits there. -/
theorem getLsbD_eq_of_field {v w : Word} {a n : Nat} (h : v.extractLsb' a n = w.extractLsb' a n) {i : Nat}
    (hlow : a ≤ i) (hhigh : i < a + n) : v.getLsbD i = w.getLsbD i := by
  have hbit := congrArg (BitVec.getLsbD · (i - a)) h
  have hi : i - a < n := by omega
  simpa [hi, Nat.add_sub_cancel' hlow] using hbit

theorem load_eq (p : Psw) (w : Word) : p.load w =
    ⟨p.priv, ⟨bitAt w 1, bitAt w 2, bitAt w 3, bitAt w 4⟩, w.extractLsb' 19 8, w.extractLsb' 1 18⟩ := by
  rw [← ofBits_extract]; rfl

/-- The three fields that are loaded fill bits 1 to 30. -/
theorem getLsbD_word_load (p : Psw) (w : Word) {i : Nat} (hlow : 1 ≤ i) (hhigh : i < 31) :
    (p.load w).word.getLsbD i = w.getLsbD i := by
  by_cases hpc : i < 19
  · exact getLsbD_eq_of_field (word_pc (p.load w)) hlow hpc
  by_cases hmid : i < 27
  · exact getLsbD_eq_of_field (word_mid (p.load w)) (by omega) hmid
  · exact getLsbD_eq_of_field ((word_bits (p.load w)).trans (bits_ofBits _)) (by omega) hhigh

/-- The two masks select bit 0 of the register and bits 1 to 30 of the word. -/
theorem word_load (p : Psw) (w : Word) :
    (p.load w).word = (p.word &&& 0x80000000#32) ||| (w &&& 0x7FFFFFFE#32) := by
  have hkeep : ∀ i < 32, (0x80000000#32).getLsbD i = decide (i = 31) := by decide
  have htake : ∀ i < 32, (0x7FFFFFFE#32).getLsbD i = decide (1 ≤ i ∧ i < 31) := by decide
  refine BitVec.eq_of_getLsbD_eq fun i hi => ?_
  rw [BitVec.getLsbD_or, BitVec.getLsbD_and, BitVec.getLsbD_and, hkeep i hi, htake i hi]
  obtain rfl | rfl | ⟨hlow, hhigh⟩ : i = 0 ∨ i = 31 ∨ 1 ≤ i ∧ i < 31 := by omega
  · rw [word_getLsbD_zero, word_getLsbD_zero]
    simp
  · have hpriv : (p.load w).word.getLsbD 31 = p.word.getLsbD 31 := (word_priv (p.load w)).trans (word_priv p).symm
    rw [hpriv]
    simp
  · simp [getLsbD_word_load p w hlow hhigh, hlow, hhigh, hhigh.ne]

theorem exec_trsw (r : Reg) (s : State) : exec (.trsw r) s = .next { s with psw := s.psw.load (s.reg r) } := rfl

/-- Settles O50: the load replaces the program count, so the advance before it does not matter. -/
theorem loadProgramStatus : Obligations.LoadProgramStatus := by
  intro s r
  refine ⟨_, exec_trsw r s, ?fields, word_load s.psw (s.reg r)⟩
  case fields => rw [load_eq]

end Sys2Proof.Machine

/-!
Shifts (47_shift.md): the ten shifts (O51), the normalizations and SCZ (O52).
-/

namespace Sys2Proof.Machine

/-! ## Shifted and rotated patterns as numbers (47_shift.md R366 to R375) -/

theorem shiftLeft_eq_ofNat {w : Nat} (x : BitVec w) (n : Nat) : x <<< n = BitVec.ofNat w (x.toNat * 2 ^ n) :=
  BitVec.eq_of_toNat_eq (by rw [BitVec.toNat_shiftLeft, Nat.shiftLeft_eq, BitVec.toNat_ofNat])

theorem ushiftRight_eq_ofNat {w : Nat} (x : BitVec w) (n : Nat) : x >>> n = BitVec.ofNat w (x.toNat / 2 ^ n) := by
  rw [← Nat.shiftRight_eq_div_pow, ← BitVec.toNat_ushiftRight, BitVec.ofNat_toNat, BitVec.setWidth_eq]

theorem sshiftRight_eq_ofInt {w : Nat} (x : BitVec w) (n : Nat) :
    x.sshiftRight n = BitVec.ofInt w (x.toInt / 2 ^ n) := by
  have hint : (x.sshiftRight n).toInt = x.toInt / 2 ^ n := by
    rw [BitVec.toInt_sshiftRight, Int.shiftRight_eq_div_pow, Nat.cast_pow, Nat.cast_ofNat]
  rw [← hint, BitVec.ofInt_toInt]

/-- The two parts of a rotation have no bit in common, so that their union is a sum. -/
theorem shiftLeft_or_ushiftRight {w n : Nat} (x : BitVec w) (h : n ≤ w) :
    x <<< n ||| x >>> (w - n) = x <<< n + x >>> (w - n) := by
  refine (BitVec.add_eq_or_of_and_eq_zero _ _ (BitVec.eq_of_getLsbD_eq fun i hi => ?_)).symm
  rw [BitVec.getLsbD_and, BitVec.getLsbD_shiftLeft, BitVec.getLsbD_ushiftRight, BitVec.getLsbD_zero]
  by_cases hlow : i < n
  · simp [hlow]
  · rw [BitVec.getLsbD_of_ge x (w - n + i) (by omega), Bool.and_false]

theorem rotateLeft_eq_ofNat {w n : Nat} (x : BitVec w) (h : n < w) :
    x.rotateLeft n = BitVec.ofNat w (x.toNat * 2 ^ n + x.toNat * 2 ^ n / 2 ^ w) := by
  have hout : x.toNat * 2 ^ n / 2 ^ w = x.toNat / 2 ^ (w - n) := by
    rw [← Nat.mul_div_mul_right x.toNat (2 ^ (w - n)) (Nat.two_pow_pos n), ← Nat.pow_add, Nat.sub_add_cancel h.le]
  rw [BitVec.rotateLeft_def, Nat.mod_eq_of_lt h, shiftLeft_or_ushiftRight x h.le, hout, BitVec.ofNat_add,
    ← shiftLeft_eq_ofNat, ← ushiftRight_eq_ofNat]

theorem rotateRight_eq_ofNat {w n : Nat} (x : BitVec w) (h : n < w) :
    x.rotateRight n = BitVec.ofNat w (x.toNat / 2 ^ n + x.toNat * 2 ^ (w - n)) := by
  have hunion := shiftLeft_or_ushiftRight x (n := w - n) (by omega)
  rw [Nat.sub_sub_self h.le] at hunion
  rw [BitVec.rotateRight_def, Nat.mod_eq_of_lt h, BitVec.or_comm, hunion, BitVec.add_comm, BitVec.ofNat_add,
    ← shiftLeft_eq_ofNat, ← ushiftRight_eq_ofNat]

/-- The sign stays in front of the other bits, which are shifted without it. -/
theorem sign_append_shiftLeft {k : Nat} (x : BitVec (1 + k)) (n : Nat) :
    BitVec.ofBool x.msb ++ (x.extractLsb' 0 k <<< n) =
      BitVec.ofNat (1 + k) (x.toNat % 2 ^ k * 2 ^ n % 2 ^ k + x.toNat / 2 ^ k * 2 ^ k) := by
  have hsign : BitVec.ofBool x.msb = x.extractLsb' k 1 := by
    refine BitVec.eq_of_getLsbD_eq fun i hi => ?_
    obtain rfl : i = 0 := by omega
    simp [BitVec.msb_eq_getLsbD_last]
  have hrest : (x.extractLsb' 0 k <<< n).toNat = x.toNat % 2 ^ k * 2 ^ n % 2 ^ k := by
    rw [BitVec.toNat_shiftLeft, Nat.shiftLeft_eq, BitVec.extractLsb'_toNat, Nat.shiftRight_zero]
  rw [hsign, keep_append_eq_ofNat, hrest, Nat.add_comm (x.toNat / 2 ^ k * 2 ^ k)]

/-! ## Left shifts that lose no sign (47_shift.md R363, R366) -/

/-- A floor of the sign alone is that of a number between the bounds. -/
theorem ediv_eq_sign_iff {a v : Int} (ha : 0 < a) : v / a = (if v < 0 then -1 else 0) ↔ -a ≤ v ∧ v < a := by
  have hfloor : ∀ q : Int, v / a = q ↔ q * a ≤ v ∧ v < (q + 1) * a := fun q => by
    rw [← Int.le_ediv_iff_mul_le ha, ← Int.ediv_lt_iff_lt_mul ha]
    omega
  rw [hfloor]
  split <;> omega

/-- A pattern is a number of `m + 1` bits exactly when all its bits from `m` on are copies of the sign. -/
theorem toInt_bounds_iff {w : Nat} (x : BitVec w) (m : Nat) :
    -2 ^ m ≤ x.toInt ∧ x.toInt < 2 ^ m ↔ ∀ j, m ≤ j → j < w → x.getLsbD j = x.msb := by
  have hfloor : (x.sshiftRight w).toInt = if x.toInt < 0 then -1 else 0 := by
    have hlo := BitVec.le_two_mul_toInt (x := x)
    have hhi := BitVec.two_mul_toInt_lt (x := x)
    rw [BitVec.toInt_sshiftRight, Int.shiftRight_eq_div_pow, ediv_eq_sign_iff (by positivity)]
    push_cast
    omega
  have hbit : ∀ k i, i < w → (x.sshiftRight k).getLsbD i = if k + i < w then x.getLsbD (k + i) else x.msb :=
    fun k i hi => by rw [BitVec.getLsbD_sshiftRight, decide_eq_false hi.not_ge, Bool.not_false, Bool.true_and]
  have hcopies : ∀ i, i < w → (x.sshiftRight w).getLsbD i = x.msb := fun i hi => by rw [hbit w i hi, if_neg (by omega)]
  have hbits : x.sshiftRight m = x.sshiftRight w ↔ ∀ j, m ≤ j → j < w → x.getLsbD j = x.msb := by
    refine ⟨fun h j hm hj => ?_, fun h => BitVec.eq_of_getLsbD_eq fun i hi => ?_⟩
    · have hcopy := hcopies (j - m) (by omega)
      rwa [← h, hbit m _ (by omega), Nat.add_sub_cancel' hm, if_pos hj] at hcopy
    · rw [hcopies i hi, hbit m i hi]
      split
      next hmi => exact h (m + i) (by omega) hmi
      next => rfl
  rw [← hbits, ← BitVec.toInt_inj, hfloor, BitVec.toInt_sshiftRight, Int.shiftRight_eq_div_pow,
    ediv_eq_sign_iff (by positivity)]
  push_cast
  rfl

/-- A bit that differs from the sign is lost exactly when the product does not fit (47 R366). -/
theorem lostBitDiffers_eq {w : Nat} (x : BitVec w) (n : BitVec 5) (h : n.toNat < w) :
    lostBitDiffers x n = outOfRange w (x.toInt * 2 ^ n.toNat) := by
  have hpow : (2 : Int) ^ (w - 1) = 2 ^ (w - 1 - n.toNat) * 2 ^ n.toNat := by
    rw [← pow_add, Nat.sub_add_cancel (by omega)]
  have hlost : lostBitDiffers x n = false ↔ ∀ i < n.toNat, bitAt x (i + 1) = x.msb := by simp [lostBitDiffers]
  rw [← Bool.not_inj_iff, Bool.eq_iff_iff, Bool.not_eq_true', Bool.not_eq_true', hlost, outOfRange_eq_false_iff, hpow,
    ← neg_mul, mul_le_mul_iff_left₀ (by positivity), mul_lt_mul_iff_left₀ (by positivity), toInt_bounds_iff]
  refine ⟨fun hall j hm hj => ?_, fun hall i hi => hall _ (by omega) (by omega)⟩
  by_cases hsign : j = w - 1
  · rw [hsign, BitVec.msb_eq_getLsbD_last]
  · have hbit := hall (w - 1 - j - 1) (by omega)
    rwa [bitAt, show w - 1 - (w - 1 - j - 1 + 1) = j by omega] at hbit

/-! ## The shifts as instructions -/

theorem exec_sla (r : Reg) (n : BitVec 5) (s : State) : exec (.sla r n) s =
    .next (((s.after 1#18 (overflowCC (lostBitDiffers (s.reg r) n))).setReg r
      (shiftLeftArithmetic (s.reg r) n)).requestArithmetic (lostBitDiffers (s.reg r) n)) := rfl

theorem exec_slad (r : Reg) (n : BitVec 5) (s : State) : exec (.slad r n) s =
    .next (((s.after 1#18 (overflowCC (lostBitDiffers (s.pair r) n))).setPair r
      (shiftLeftArithmeticDouble (s.pair r) n)).requestArithmetic (lostBitDiffers (s.pair r) n)) := rfl

/-- Settles O51: each pattern is a number, and the bits lost by a left arithmetic shift decide whether the product
fits. -/
theorem shifts : Obligations.Shifts := by
  intro s r c n x z
  have hword : n < 32 := c.isLt
  have hdouble : n < 64 := hword.trans (by decide)
  refine ⟨fun p hp => ?words, fun p hp => ?pairs, ?sla, ?slad⟩
  case words =>
    simp only [List.mem_cons, List.not_mem_nil, or_false] at hp
    rcases hp with rfl | rfl | rfl | rfl | rfl
    · rw [← shiftLeft_eq_ofNat]; rfl
    · rw [← ushiftRight_eq_ofNat]; rfl
    · rw [← sshiftRight_eq_ofInt]; rfl
    · rw [← rotateLeft_eq_ofNat x hword]; rfl
    · rw [← rotateRight_eq_ofNat x hword]; rfl
  case pairs =>
    simp only [List.mem_cons, List.not_mem_nil, or_false] at hp
    rcases hp with rfl | rfl | rfl
    · rw [← shiftLeft_eq_ofNat]; rfl
    · rw [← ushiftRight_eq_ofNat]; rfl
    · rw [← sshiftRight_eq_ofInt]; rfl
  case sla =>
    rw [← lostBitDiffers_eq x c hword, ← sign_append_shiftLeft (k := 31)]
    exact exec_sla r c s
  case slad =>
    rw [← lostBitDiffers_eq z c hdouble, ← sign_append_shiftLeft (k := 63)]
    exact exec_slad r c s

/-! ## Normalizations (47_shift.md R363, R364) -/

/-- The sign and the four bits after it are equal exactly when sixteen times the number fits. -/
theorem topFiveEqual_eq {w : Nat} (x : BitVec w) (h : 4 < w) : topFiveEqual x = !outOfRange w (x.toInt * 16) := by
  have hlost : topFiveEqual x = !lostBitDiffers x 4#5 := by
    have hrange : List.range (4#5).toNat = [0, 1, 2, 3] := rfl
    rw [topFiveEqual, lostBitDiffers, hrange, List.not_any_eq_all_not]
    simp [Bool.and_assoc, bne]
  rw [hlost, lostBitDiffers_eq x 4#5 h]
  rfl

/-- What fits after multiplying by a power fits before. -/
theorem fits_of_fits_mul {w : Nat} {v c : Int} (hc : 0 < c) (h : outOfRange w (v * c) = false) :
    outOfRange w v = false := by
  rw [outOfRange_eq_false_iff] at h ⊢
  obtain ⟨hlo, hhi⟩ := h
  rcases le_or_gt 0 v with hv | hv
  · exact ⟨by nlinarith, by nlinarith⟩
  · exact ⟨by nlinarith, by nlinarith⟩

/-- A multiple of a number other than zero is at least as large as the factor. -/
theorem le_of_fits_mul {w : Nat} {v c : Int} (hv : v ≠ 0) (hc : 0 < c) (h : outOfRange w (v * c) = false) :
    c ≤ 2 ^ (w - 1) := by
  rw [outOfRange_eq_false_iff] at h
  obtain ⟨hlo, hhi⟩ := h
  rcases lt_or_gt_of_ne hv with hneg | hpos
  · nlinarith
  · nlinarith

theorem shiftLeft_eq_ofInt {w : Nat} (x : BitVec w) (n : Nat) : x <<< n = BitVec.ofInt w (x.toInt * 2 ^ n) := by
  have hpow : BitVec.ofInt w (2 ^ n) = BitVec.ofNat w (2 ^ n) := by
    rw [← BitVec.ofInt_natCast, Nat.cast_pow, Nat.cast_ofNat]
  rw [BitVec.ofInt_mul, BitVec.ofInt_toInt, hpow, shiftLeft_eq_ofNat, BitVec.ofNat_mul, BitVec.ofNat_toNat,
    BitVec.setWidth_eq]

theorem toInt_shiftLeft_four {w : Nat} (hw : 0 < w) {x : BitVec w} (h : outOfRange w (x.toInt * 16) = false) :
    (x <<< 4).toInt = x.toInt * 16 := by
  rw [shiftLeft_eq_ofInt]
  exact toInt_ofInt_of_fits hw h

/-- With fuel enough the shifts end at the largest power of 16 that fits. -/
theorem normalizeBy_eq {w : Nat} (hw : 4 < w) {k fuel : Nat} (x : BitVec w) (j : Nat) (hfuel : k ≤ fuel)
    (hfits : outOfRange w (x.toInt * 16 ^ k) = false) (hlargest : outOfRange w (x.toInt * 16 ^ (k + 1)) = true) :
    normalizeBy fuel x j = (BitVec.ofInt w (x.toInt * 16 ^ k), j + k) := by
  induction k generalizing fuel x j with
  | zero =>
    have hstop : topFiveEqual x = false := by rw [topFiveEqual_eq x hw, ← pow_one (16 : Int), hlargest]; rfl
    rw [pow_zero, mul_one, BitVec.ofInt_toInt, Nat.add_zero]
    cases fuel with
    | zero => rfl
    | succ fuel => simp [normalizeBy, hstop]
  | succ k ih =>
    obtain ⟨fuel, rfl⟩ : ∃ f, fuel = f + 1 := ⟨fuel - 1, by omega⟩
    have hpow : ∀ i, x.toInt * 16 ^ (i + 1) = x.toInt * 16 * 16 ^ i := fun i => by rw [pow_succ', mul_assoc]
    rw [hpow] at hfits hlargest
    have hnext : outOfRange w (x.toInt * 16) = false := fits_of_fits_mul (by positivity) hfits
    have hgo : topFiveEqual x = true := by rw [topFiveEqual_eq x hw, hnext]; rfl
    have hshift := toInt_shiftLeft_four (by omega) hnext
    rw [normalizeBy, if_pos hgo, ih _ _ (by omega) (by rwa [hshift]) (by rwa [hshift]), hshift, hpow,
      Nat.add_right_comm]
    rfl

theorem normalize_zero (w : Nat) : normalize 0#w = (0#w, 0#32) := if_pos rfl

theorem normalize_eq {w k : Nat} (hw : 4 < w) {x : BitVec w} (hx : x ≠ 0#w)
    (hfits : outOfRange w (x.toInt * 16 ^ k) = false) (hlargest : outOfRange w (x.toInt * 16 ^ (k + 1)) = true) :
    normalize x = (BitVec.ofInt w (x.toInt * 16 ^ k), BitVec.ofNat 32 (0x40 - k)) := by
  have hint : x.toInt ≠ 0 := fun h => hx (BitVec.toInt_inj.1 (h.trans BitVec.toInt_zero.symm))
  have hpow : (2 : Int) ^ (4 * k) ≤ 2 ^ (w - 1) := by
    rw [pow_mul]
    exact le_of_fits_mul hint (by positivity) hfits
  have hfuel : k ≤ w / 4 := by
    have hexp := (pow_le_pow_iff_right₀ (by decide)).1 hpow
    omega
  rw [normalize, if_neg hx, normalizeBy_eq hw x 0 hfuel hfits hlargest, Nat.zero_add]

/-! ## SCZ (47_shift.md R365) -/

theorem leadingZeros_eq {x : Word} {k : Nat} (hk : k < 32) (hlo : 2 ^ (31 - k) ≤ x.toNat)
    (hhi : x.toNat < 2 ^ (32 - k)) : leadingZeros x = k := by
  have hx : x.toNat ≠ 0 := (Nat.two_pow_pos _).trans_le hlo |>.ne'
  have hlog : Nat.log2 x.toNat = 31 - k :=
    (Nat.log2_eq_iff hx).2 ⟨hlo, by rwa [show 31 - k + 1 = 32 - k by omega]⟩
  rw [leadingZeros, hlog]
  omega

/-! ## NOR, NORD and SCZ as instructions -/

theorem setReg_of_reg_eq {s : State} {r : Reg} {v : Word} (h : s.reg r = v) : s.setReg r v = s := by
  rw [← h, State.setReg, State.reg, Vector.set_getElem_self]

theorem setPair_of_pair_eq {s : State} {r : Reg} {v : DWord} (h : s.pair r = v) : s.setPair r v = s := by
  rw [← h, setPair_eq, State.pair, BitVec.extractLsb'_append_eq_left, BitVec.extractLsb'_append_eq_right,
    setReg_of_reg_eq rfl, setReg_of_reg_eq rfl]

theorem exec_nor (a b : Reg) (s : State) : exec (.nor a b) s =
    .next (((s.advance 1#18).setReg a (normalize (s.reg a)).1).setReg b (normalize (s.reg a)).2) := rfl

theorem exec_nord (a b : Reg) (s : State) : exec (.nord a b) s =
    .next (((s.advance 1#18).setPair a (normalize (s.pair a)).1).setReg b (normalize (s.pair a)).2) := rfl

theorem exec_scz_zero {a : Reg} (b : Reg) {s : State} (h : s.reg a = 0#32) : exec (.scz a b) s =
    .next (((s.after 1#18 ⟨false, false, false, true⟩).setReg a 0#32).setReg b 0#32) := by
  refine runHalf_ok (opScz a b) s _ ?_
  have hreg : (s.advance 1#18).reg a = 0#32 := h
  rw [opScz, hreg]
  rfl

theorem exec_scz {a : Reg} (b : Reg) {s : State} (h : s.reg a ≠ 0#32) : exec (.scz a b) s =
    .next (((s.after 1#18 ⟨false, false, false, false⟩).setReg a (s.reg a <<< (leadingZeros (s.reg a) + 1))).setReg b
      (BitVec.ofNat 32 (leadingZeros (s.reg a)))) := by
  refine runHalf_ok (opScz a b) s _ ?_
  have hreg : (s.advance 1#18).reg a = s.reg a := rfl
  have hcc : (s.reg a == 0#32) = false := beq_false_of_ne h
  simp only [opScz, hreg, if_neg h, hcc]
  rfl

/-- Settles O52: a normalization ends at the largest power of 16 that fits, and zero leaves the register or pair as it
was. -/
theorem normalizeAndScan : Obligations.NormalizeAndScan := by
  intro s a b k x z u
  refine ⟨fun hx => ⟨?norZero, ?sczZero⟩, fun hz => ?nordZero, fun hx hfits hlargest => ?nor,
    fun hz hfits hlargest => ?nord, fun hk hlo hhi => ?scz⟩
  case norZero => rw [exec_nor, show s.reg a = 0#32 from hx, normalize_zero, setReg_of_reg_eq (s := u) hx]
  case sczZero => rw [exec_scz_zero b hx, setReg_of_reg_eq (s := s.after 1#18 ⟨false, false, false, true⟩) hx]
  case nordZero => rw [exec_nord, show s.pair a = 0#64 from hz, normalize_zero, setPair_of_pair_eq (s := u) hz]
  case nor => rw [exec_nor, normalize_eq (by decide) hx hfits hlargest]
  case nord => rw [exec_nord, normalize_eq (by decide) hz hfits hlargest]
  case scz =>
    have hx : x ≠ 0#32 := fun h => by
      rw [h] at hlo
      exact (Nat.two_pow_pos _).not_ge hlo
    rw [exec_scz b hx, leadingZeros_eq hk hlo hhi, shiftLeft_eq_ofNat]

end Sys2Proof.Machine

/-!
Exceptions (60_exceptions.md): the entry (O8), the service check (O7), traps that are taken and traps that are not (O10,
O11), the faults of a fetch (O12, O13), and endless indirect chains (O59).
-/

namespace Sys2Proof.Machine

/-! ## Entry (60_exceptions.md R443, R444, R447, R457) -/

/-- An entry that can be made is made. -/
theorem exists_entered {s : State} {n : Level} {trapForm : Bool} (h : EntryReady s n trapForm) :
    ∃ t, enter s n trapForm = .ok t ∧ Entered s t n trapForm := by
  obtain ⟨hpresent, hparity, hsave, hwritable⟩ := h
  have hok : ∃ t, enter s n trapForm = .ok t := by simp [enter, hpresent, hparity, hsave, hwritable]
  obtain ⟨t, ht⟩ := hok
  exact ⟨t, ht, entered_of_enter ht⟩

/-- Settles O8: the entry is made, and what it leaves is known. -/
theorem entrySequence : Obligations.EntrySequence := fun _ _ _ h => exists_entered h

/-! ## The service check (60_exceptions.md R452, R454, R455, 70_reset_and_hazards.md R504) -/

theorem blocked_eq_false_iff (s : State) (n : Level) :
    s.blocked n = false ↔ ∀ m, hasLevel s.active m = true → s.prio n < s.prio m := by
  simp [State.blocked, mem_allLevels]

theorem serviceable_iff_candidate (s : State) (n : Level) : s.serviceable n = true ↔ Candidate s n := by
  simp only [State.serviceable, State.levelPresent, Candidate, ← blocked_eq_false_iff, Bool.and_eq_true,
    Bool.or_eq_true, Bool.not_eq_true', decide_eq_true_eq]
  tauto

/-- The service check does nothing in HALT, without power, under the shield and inside an unfinished instruction. -/
theorem serviceCheck_deferred {s : State} (h : s.run = .halt ∨ s.run = .off ∨ s.shield = true ∨ s.hung = true) :
    serviceCheck s = .ok s := by
  refine if_pos ?_
  rcases h with h | h | h | h <;> simp [State.stopped, h]

/-- Otherwise it enters the candidate of least priority value. -/
theorem serviceCheck_enters {s : State} {n : Level} (hrun : s.stopped = false) (hshield : s.shield = false)
    (hhung : s.hung = false) (hn : Candidate s n) (hmin : ∀ m, Candidate s m → m ≠ n → s.prio n < s.prio m) :
    serviceCheck s = enter s n false := by
  have hhighest : s.highest (allLevels.filter s.serviceable) = some n :=
    highest_eq_some (List.mem_filter.2 ⟨mem_allLevels n, (serviceable_iff_candidate s n).2 hn⟩) fun m hm =>
      hmin m ((serviceable_iff_candidate s m).1 (List.mem_filter.1 hm).2)
  simp [serviceCheck, hrun, hshield, hhung, hhighest]

/-- Settles O7: the serviceable levels are the candidates, and the service check enters the highest of them. -/
theorem serviceCheckRule : Obligations.ServiceCheckRule := by
  intro s
  refine ⟨serviceable_iff_candidate s, fun h => ?nothing, fun n hhalt hoff hshield hhung hn hmin hready => ?enters⟩
  case nothing =>
    by_cases hnone : ∀ n, ¬ Candidate s n
    · exact serviceCheck_idle s fun n => Bool.eq_false_iff.2 fun h => hnone n ((serviceable_iff_candidate s n).1 h)
    · exact serviceCheck_deferred (by tauto)
  case enters =>
    have hrun : s.stopped = false := by simp [State.stopped, hhalt, hoff]
    rw [serviceCheck_enters hrun hshield hhung hn hmin]
    exact exists_entered hready

/-! ## Traps (60_exceptions.md R432, R434, R446, R447) -/

theorem trapOpen_iff (s : State) (x : Trap) :
    (hasLevel s.enabled x.level && !s.blocked x.level) = true ↔ TrapOpen s x := by
  rw [Bool.and_eq_true, Bool.not_eq_true', blocked_eq_false_iff, TrapOpen]

theorem entered_of_ready {s : State} {n : Level} {trapForm : Bool} (h : EntryReady s n trapForm) :
    ∃ t, entered (enter s n trapForm) = .next t ∧ Entered s t n trapForm := by
  obtain ⟨t, ht, hentered⟩ := exists_entered h
  exact ⟨t, by rw [ht]; rfl, hentered⟩

/-- Settles O10: an open trap is an entry in the trap form. -/
theorem trapTaken : Obligations.TrapTaken := by
  intro s x len hopen hready
  rw [raise_taken x len s ((trapOpen_iff s x).2 hopen)]
  exact entered_of_ready hready

/-- Settles O11: a trap that is not open advances past the instruction. -/
theorem trapNotTaken : Obligations.TrapNotTaken := by
  intro s x len hclosed
  rw [raise_skipped x len s (Bool.eq_false_iff.2 fun h => hclosed ((trapOpen_iff s x).1 h)), beq_eq_decide]
  rfl

/-! ## Faults of the fetch (60_exceptions.md R434 to R436, 70_reset_and_hazards.md R507) -/

theorem pcWord_tick (s : State) : s.tick.pcWord = s.pcWord := by rw [State.pcWord, tick_psw]; rfl

theorem pcRight_tick (s : State) : s.tick.pcRight = s.pcRight := by rw [State.pcRight, tick_psw]; rfl

theorem toNextWord_tick (s : State) : toNextWord s.tick = toNextWord s := by rw [toNextWord, pcRight_tick]; rfl

/-- The length of an undefined code: bit 0 of the word tells it in a left halfword (log 26). -/
theorem instructionLength_eq (s : State) :
    instructionLength s = if s.psw.pc.getLsbD 0 then 1#18 else if bitAt (s.wordAt s.pcWord) 0 then 2#18 else 1#18 := by
  have hbit : ((s.wordAt s.pcWord).extractLsb' 24 8).msb = bitAt (s.wordAt s.pcWord) 0 := by
    simp [bitAt, BitVec.msb_eq_getLsbD_last]
  unfold instructionLength instructionBytes State.pcRight
  split
  · rfl
  · rw [← hbit]; rfl

theorem fetchInstruction_absent {s : State} (h : s.present s.pcWord = false) :
    fetchInstruction s = .trapped .nonPresentMemory (toNextWord s) (begun s) := by
  simp [fetchInstruction, h]

theorem fetchInstruction_parity {s : State} (hp : s.present s.pcWord = true) (hq : s.tick.parityBadAt s.pcWord = true) :
    fetchInstruction s = .trapped .memoryParity (toNextWord s) (begun s.tick) := by
  simp [fetchInstruction, hp, pcWord_tick, hq, toNextWord_tick]

theorem fetchInstruction_undecodable {s : State} {x : DecodeReject} (hp : s.present s.pcWord = true)
    (hq : s.tick.parityBadAt s.pcWord = false) (hd : decode (instructionBytes s.tick) = .error x) :
    fetchInstruction s =
      .trapped .undefinedInstruction (instructionLength s.tick) (begun (adoptKeyswitch s.tick)) := by
  simp [fetchInstruction, hp, pcWord_tick, hq, hd]

/-- A step whose fetch traps with nothing before it. -/
theorem step_fetch_trapped {s u v : State} {x : Trap} {len : BitVec 18} (h : Undisturbed s u)
    (hfetch : fetchInstruction u = .trapped x len v) : step s = raise x len v := by
  simp [step, prepare_undisturbed h, hfetch]

/-- Settles O12: the adoption comes before the trap, and bit 0 of the halfword tells the length. -/
theorem undecodableTraps : Obligations.UndecodableTraps := by
  intro s u w x hu hp hq hd he
  rw [step_fetch_trapped hu (fetchInstruction_undecodable hp hq hd), begun_adoptKeyswitch_of_executes he,
    instructionLength_eq, tick_psw, pcWord_tick]

/-- Settles O13: presence and parity are looked at before the keyswitch. -/
theorem fetchFaults : Obligations.FetchFaults := fun _ _ hu =>
  ⟨fun hp => step_fetch_trapped hu (fetchInstruction_absent hp),
    fun hp hq => step_fetch_trapped hu (fetchInstruction_parity hp hq)⟩

/-! ## Endless indirect chains (70_reset_and_hazards.md R504, 60_exceptions.md R452) -/

theorem effAddr_hang_bussed {s u : State} {m : MemRef} (h : effAddr s m = .error (.hang u)) : Bussed s u := by
  have k := effAddr_ends (Q := Bussed s) (fun _ h => h.tick) (.refl s) m
  rw [h] at k
  exact k

/-- A word that leads to itself uses up any number of levels. -/
theorem chase_self {s : State} {w : WordAddr} {f : Bool} {c : BitVec 2} (hquiet : s.within = [])
    (hp : s.present w = true) (hq : s.parityBadAt w = false)
    (hw : MemRef.ofWord (s.wordAt w) = ⟨0#2, true, f, w ++ c⟩) (fuel : Nat) (f' : Bool) (c' : BitVec 2) :
    chase fuel f' c' (w ++ c) s = .error (.hang s) := by
  induction fuel generalizing f' c' with
  | zero => rfl
  | succ n ih =>
    have hread : readWord s w = .ok (s.wordAt w, s) :=
      (readWord_ok ..).2 (by simp [tick_quiet s hquiet, hp, hq])
    have haddr : s.indexed ⟨0#2, true, f, w ++ c⟩ = w ++ c := rfl
    simp [chase, hread, hw, haddr, ih, bind, Except.bind]

/-- Without an address an instruction ends in the endless chain, the program count at it. -/
theorem runWord_hang {op : State → Act State} {s u : State} {m : MemRef} (hop : FormsAddress m op)
    (h : effAddr s m = .error (.hang u)) : runWord op s = endlessChain u := by
  have hadvanced : effAddr (s.advance 2#18) m = .error (.hang (u.advance 2#18)) := by rw [effAddr_advance, h]; rfl
  rw [runWord, hop _ _ hadvanced, complete_hang, setPc_advance, ← (effAddr_hang_bussed h).psw, setPc_self]

theorem overrides_iff (s : State) (n : Level) :
    s.overrides n = true ↔ hasLevel s.request n = true ∧ s.cfg.optRtm = true ∧ s.keylock ≠ .off ∧
      ∀ k, hasLevel s.active k = true → s.prio n < s.prio k := by
  rw [← blocked_eq_false_iff]
  simp [State.overrides, State.trapFormUsable, and_assoc]

/-- Neither level breaks the chain. -/
theorem endlessChain_stuck {s : State} (h : ∀ l : Level, l.toNat ≤ 1 → s.overrides l = false) :
    endlessChain s = .next { s with hung := true } := by
  simp [endlessChain, h 0x00#7 (by decide), h 0x01#7 (by decide)]

/-- Level 00H breaks it, or level 01H where 00H does not. -/
theorem endlessChain_broken {s : State} {l : Level} (hl : l.toNat ≤ 1) (h : s.overrides l = true)
    (hfirst : l = 1#7 → s.overrides 0#7 = false) : endlessChain s = entered (enter s l true) := by
  obtain rfl | rfl : l = 0#7 ∨ l = 1#7 := by bv_omega
  · simp [endlessChain, h]
  · simp [endlessChain, h, hfirst rfl]

end Sys2Proof.Machine

namespace Sys2Proof

open Machine

/-- Settles O59: such an instruction ends in the model's `endlessChain`, which asks whether level 00H, then 01H, breaks
the chain. -/
theorem endlessChain : Obligations.EndlessChain := by
  intro s
  refine ⟨fun f w c hquiet hp hq hw => chase_self hquiet hp hq hw _ _ _, fun r n m u h => ?_⟩
  have hbus := effAddr_hang_bussed h
  have hoverrides (l : Level) : u.overrides l = true ↔ hasLevel u.request l = true ∧ s.cfg.optRtm = true ∧
      s.keylock ≠ .off ∧ ∀ k, hasLevel s.active k = true → s.prio l < s.prio k := by
    have hkeylock : u.keylock = s.keylock := by rw [hbus.1]
    simp only [overrides_iff, hbus.cfg, hkeylock, hbus.active, hbus.prio]
  refine ⟨hbus.1, fun i hi => ?_⟩
  obtain ⟨op, hop, hexec⟩ := exec_addressFormer hi
  rw [hexec, runWord_hang hop h]
  refine ⟨fun hnone => ?stuck, fun l hl hrequest hfirst hrtm hkeylock hopen hready => ?broken⟩
  case stuck =>
    refine endlessChain_stuck fun l hl => Bool.eq_false_iff.2 fun hover => ?_
    obtain ⟨hrequest, hrtm, hkeylock, hopen⟩ := (hoverrides l).1 hover
    obtain hr | hr | hr | ⟨k, hk, hle⟩ := hnone l hl
    · exact Bool.eq_false_iff.1 hr hrequest
    · exact Bool.eq_false_iff.1 hr hrtm
    · exact hkeylock hr
    · exact (hopen k hk).not_ge hle
  case broken =>
    have hzero (h1 : l = 1#7) : u.overrides 0#7 = false :=
      Bool.eq_false_iff.2 fun hover => Bool.eq_false_iff.1 (hfirst h1) ((hoverrides 0#7).1 hover).1
    rw [endlessChain_broken hl ((hoverrides l).2 ⟨hrequest, hrtm, hkeylock, hopen⟩) hzero]
    exact entered_of_ready hready

end Sys2Proof

/-!
Control, interrupt control and input/output instructions (48_control.md, 49_interrupt_io.md): effect and frame (O54,
O55, O56), and the privileged ones in the Unprivileged state (O57).
-/

namespace Sys2Proof.Machine

/-! ## Privileged instructions (60_exceptions.md R437, R448) -/

theorem privilegedOnly_unprivileged {s : State} (h : s.unprivileged = true) :
    privilegedOnly s = .error (.trap .privilegeViolation s) := if_pos h

/-- Outside the Unprivileged state a privileged word instruction does what stands after its check. -/
theorem runWord_privileged {op : State → Act State} {f : State → State}
    (hop : ∀ s, op s = privilegedOnly s >>= fun _ => .ok (f s)) {s : State} (h : s.unprivileged = false) :
    runWord op s = .next (f (s.advance 2#18)) := by
  have hcheck : privilegedOnly (s.advance 2#18) = .ok () := (privilegedOnly_ok _).2 h
  exact runWord_ok _ _ _ (by rw [hop, hcheck]; rfl)

/-- In it a privileged word instruction does nothing but trap. -/
theorem runWord_unprivileged {op f : State → Act State} (hop : ∀ s, op s = privilegedOnly s >>= fun _ => f s)
    {s : State} (h : s.unprivileged = true) : runWord op s = raise .privilegeViolation 2#18 s :=
  runWord_trap _ _ _ (by rw [hop, privilegedOnly_unprivileged (s := s.advance 2#18) h]; rfl)

theorem opHalt_unprivileged {s : State} (h : s.unprivileged = true) :
    opHalt s = .error (.trap .privilegeViolation s) := by
  rw [opHalt, privilegedOnly_unprivileged h]; rfl

theorem exec_halt_unprivileged {s : State} (h : s.unprivileged = true) :
    exec .halt s = raise .privilegeViolation 1#18 s := by
  change runHalf opHalt s = _
  rw [runHalf, opHalt_unprivileged (s := s.advance 1#18) h, complete_trap, setPc_advance, setPc_self]

theorem exec_trp_notPrivileged {s : State} (hrtm : s.cfg.optRtm = true) (hpriv : s.psw.priv = false) (k : BitVec 4)
    (r : Reg) : exec (.trp k r) s = raise .privilegeViolation 2#18 s := by
  refine runWord_trap (opTrp k r) s _ ?_
  simp [opTrp, State.notPrivileged, hrtm, hpriv]

/-- Settles O57: the check of the privilege comes first, TRP's after that of its option. -/
theorem privilegedTraps : Obligations.PrivilegedTraps := by
  intro s r n device code k m
  refine ⟨fun h => ⟨exec_halt_unprivileged h, fun i hi => ?_⟩, fun hrtm hpriv =>
    exec_trp_notPrivileged hrtm hpriv k r⟩
  simp only [List.mem_cons, List.not_mem_nil, or_false] at hi
  rcases hi with rfl | rfl | rfl | rfl | rfl | rfl | rfl | rfl
  · exact runWord_unprivileged (op := opBri m) (fun _ => rfl) h
  · exact runWord_unprivileged (op := opEi n) (fun _ => rfl) h
  · exact runWord_unprivileged (op := opDi n) (fun _ => rfl) h
  · exact runWord_unprivileged (op := opRi n) (fun _ => rfl) h
  · exact runWord_unprivileged (op := opAi n) (fun _ => rfl) h
  · exact runWord_unprivileged (op := opDai n) (fun _ => rfl) h
  · exact runWord_unprivileged (op := opCd device code) (fun _ => rfl) h
  · exact runWord_unprivileged (op := opTd device code) (fun _ => rfl) h

/-! ## HALT, WAIT, NOP, CALM (48_control.md R393 to R396) -/

theorem opHalt_privileged {s : State} (h : s.unprivileged = false) : opHalt s = .ok { s with run := .halt } := by
  rw [opHalt, (privilegedOnly_ok s).2 h]; rfl

theorem exec_calm (flags : BitVec 10) (s : State) :
    exec (.calm flags) s = .next { s.advance 1#18 with request := setLevel s.request 0x27#7 true } := rfl

/-- Settles O54: none of the four can trap but HALT, and CALM sets one request latch. -/
theorem controlInstructions : Obligations.ControlInstructions := by
  intro s flags
  refine ⟨fun h => runHalf_ok _ _ _ (opHalt_privileged (s := s.advance 1#18) h), rfl, rfl, _, exec_calm flags s, rfl,
    fun k => ?_⟩
  rw [hasLevel_setLevel]
  by_cases hk : k = 0x27#7 <;> simp [hk]

/-! ## EI, DI, RI, AI, DAI (49_interrupt_io.md R411 to R416) -/

/-- Setting one latch under a condition. -/
theorem hasLevel_setWhen (l : LevelSet) (n k : Level) (c : Bool) :
    hasLevel (if c then setLevel l n true else l) k = (hasLevel l k || (c && k == n)) := by
  cases c
  · simp
  · by_cases hk : k = n <;> simp [hk]

/-- Clearing one latch under a condition. -/
theorem hasLevel_clearWhen (l : LevelSet) (n k : Level) (c : Bool) :
    hasLevel (if c then setLevel l n false else l) k = (hasLevel l k && !(c && k == n)) := by
  cases c
  · simp
  · by_cases hk : k = n <;> simp [hk]

/-- A privileged instruction that replaces the latches `old` by `new` where its level is one it operates on. -/
theorem runWord_latches {op : State → Act State} {operates : State → Bool} {put : State → LevelSet → State}
    {old new : State → LevelSet} {s : State} (hs : s.unprivileged = false) (hkeep : ∀ s, put s (old s) = s)
    (hop : ∀ s, op s = privilegedOnly s >>= fun _ => .ok (if operates s then put s (new s) else s)) :
    runWord op s = .next (put (s.advance 2#18)
      (if operates (s.advance 2#18) then new (s.advance 2#18) else old (s.advance 2#18))) := by
  rw [runWord_privileged hop hs]
  split
  · rfl
  · rw [hkeep]

section Latches

variable {s : State} (hs : s.unprivileged = false) (n : Level)
include hs

theorem exec_ei : exec (.ei n) s = .next { s.advance 2#18 with
    enabled := if s.enableable n then setLevel s.enabled n true else s.enabled } :=
  runWord_latches (op := opEi n) (put := fun s l => { s with enabled := l }) hs (fun _ => rfl) fun _ => rfl

theorem exec_ri : exec (.ri n) s = .next { s.advance 2#18 with
    request := if s.controllable n then setLevel s.request n true else s.request } :=
  runWord_latches (op := opRi n) (put := fun s l => { s with request := l }) hs (fun _ => rfl) fun _ => rfl

theorem exec_ai : exec (.ai n) s = .next { s.advance 2#18 with
    active := if s.controllable n then setLevel s.active n true else s.active } :=
  runWord_latches (op := opAi n) (put := fun s l => { s with active := l }) hs (fun _ => rfl) fun _ => rfl

theorem exec_dai : exec (.dai n) s = .next { s.advance 2#18 with
    active := if s.controllable n then setLevel s.active n false else s.active } :=
  runWord_latches (op := opDai n) (put := fun s l => { s with active := l }) hs (fun _ => rfl) fun _ => rfl

/-- DI alone replaces the latches of two kinds. -/
theorem exec_di : exec (.di n) s = .next { s.advance 2#18 with
    enabled := if s.enableable n then setLevel s.enabled n false else s.enabled
    request := if s.enableable n then setLevel s.request n false else s.request } := by
  refine (runWord_privileged (op := opDi n) (fun _ => rfl) hs).trans (congrArg _ ?_)
  change (if s.enableable n then _ else _) = _
  split <;> rfl

end Latches

/-- Settles O55: each of the five sets or clears latches of its one level, where it operates on the level at all. -/
theorem interruptControl : Obligations.InterruptControl := fun s n hs =>
  ⟨⟨_, exec_ei hs n, rfl, fun k => hasLevel_setWhen s.enabled n k (s.enableable n)⟩,
    ⟨_, exec_di hs n, rfl, fun k => ⟨hasLevel_clearWhen s.enabled n k (s.enableable n),
      hasLevel_clearWhen s.request n k (s.enableable n)⟩⟩,
    ⟨_, exec_ri hs n, rfl, fun k => hasLevel_setWhen s.request n k (s.controllable n)⟩,
    ⟨_, exec_ai hs n, rfl, fun k => hasLevel_setWhen s.active n k (s.controllable n)⟩,
    ⟨_, exec_dai hs n, rfl, fun k => hasLevel_clearWhen s.active n k (s.controllable n)⟩⟩

/-! ## CD and TD (49_interrupt_io.md R419, R420, R422, R428, R429) -/

/-- The load of the Transfer Control Word register, field by field. -/
theorem loadControlWord_eq (s : State) (k : Fin 16) (c : Channel) :
    s.loadControlWord k c = { c with
      tcw := if s.ioPresent (controlWordAddr k) then s.wordAt (controlWordAddr k) else c.tcw
      parityError := c.parityError || (s.ioPresent (controlWordAddr k) && s.parityBadAt (controlWordAddr k))
      illegalAccess := c.illegalAccess || !s.ioPresent (controlWordAddr k) } := by
  unfold State.loadControlWord
  dsimp only
  cases s.ioPresent (controlWordAddr k) <;> simp

/-- What a command leaves in its channel, field by field; `loads` says whether the register is loaded. -/
theorem command_eq (s : State) (k : Fin 16) (cmd : Command) :
    let c := s.channels[k]
    let d := controlWordAddr k
    let loads := bitAt cmd.code 0 && s.cfg.channels[k].highPriority
    s.command k cmd = { c with
      command := some cmd
      busy := c.busy || bitAt cmd.code 0
      autoReinit := if bitAt cmd.code 0 then bitAt cmd.code 1 else c.autoReinit && !bitAt cmd.code 1
      tcw := if loads && s.ioPresent d then s.wordAt d else c.tcw
      parityError := c.parityError || (loads && s.ioPresent d && s.parityBadAt d)
      illegalAccess := c.illegalAccess || (loads && !s.ioPresent d) } := by
  unfold State.command
  cases bitAt cmd.code 0
  · cases bitAt cmd.code 1 <;> simp
  · cases s.cfg.channels[k].highPriority <;> simp [loadControlWord_eq]

section Devices

variable {s : State} (hs : s.unprivileged = false) (device : BitVec 7) (code : BitVec 16)
include hs

theorem exec_cd : exec (.cd device code) s = .next (if s.channelInstalled (channelOfDevice device) then
      (s.advance 2#18).setChannel (channelOfDevice device) (s.command (channelOfDevice device) ⟨device, code⟩)
    else s.advance 2#18) :=
  runWord_privileged (fun _ => rfl) hs

theorem exec_td : exec (.td device code) s = .next (if s.channelInstalled (channelOfDevice device) then
      (s.after 2#18 (CC.ofBits (Config.deviceReply s.draws device code))).drawn
    else s.after 2#18 (CC.ofBits 0#4)) :=
  (runWord_privileged (op := opTd device code) (fun _ => rfl) hs).trans rfl

end Devices

/-- Settles O56: whether a channel answers decides both instructions, and a command changes its one channel. -/
theorem deviceInstructions : Obligations.DeviceInstructions := by
  intro s device code hs k c d loads
  refine ⟨fun habsent => ?absent, fun hinstalled => ?installed⟩
  case absent =>
    have hnone : s.channelInstalled k = false := habsent
    rw [exec_cd hs, exec_td hs, hnone]
    exact ⟨rfl, rfl⟩
  case installed =>
    have hone : s.channelInstalled k = true := hinstalled
    rw [exec_cd hs, exec_td hs, hone]
    refine ⟨⟨_, rfl⟩, _, rfl, rfl, fun j hj => ?others, ?addressed⟩
    case others => exact Vector.getElem_set_ne k.isLt j.isLt fun h => hj (Fin.ext h.symm)
    case addressed => exact (Vector.getElem_set_self k.isLt).trans (command_eq s k ⟨device, code⟩)

end Sys2Proof.Machine

/-!
The execute instructions (48_control.md): what they do with a subject (O53).
-/

namespace Sys2Proof

/-! ## Halfword and word instructions (30_encoding.md R101, R120) -/

/-- The instruction is a word. -/
def isWordInstr (i : Instr) : Bool := (encodeBits i).isRight

theorem isWordInstr_byFormat {m : MemRef} {byte half word double : Instr} (hb : isWordInstr byte = true)
    (hh : isWordInstr half = true) (hw : isWordInstr word = true) (hd : isWordInstr double = true) :
    isWordInstr (byFormat m byte half word double) = true := by
  unfold byFormat
  split_ifs <;> assumption

theorem isWordInstr_ite {c : Prop} [Decidable c] {i j : Instr} {b : Bool} (hi : isWordInstr i = b)
    (hj : isWordInstr j = b) : isWordInstr (if c then i else j) = b := by
  split_ifs <;> assumption

/-- Every answer of a decoder is a halfword instruction. -/
def OnlyHalves (o : Option Instr) : Prop := ∀ i, o = some i → isWordInstr i = false

/-- Every answer of a decoder is a word instruction. -/
def OnlyWords (o : Option Instr) : Prop := ∀ i, o = some i → isWordInstr i = true

theorem onlyHalves_none : OnlyHalves none := nofun

theorem onlyWords_none : OnlyWords none := nofun

theorem onlyHalves_some {i : Instr} (h : isWordInstr i = false) : OnlyHalves (some i) := by
  rintro _ ⟨⟩; exact h

theorem onlyWords_some {i : Instr} (h : isWordInstr i = true) : OnlyWords (some i) := by
  rintro _ ⟨⟩; exact h

theorem decodeControl_onlyHalves (r : Reg) (aug : BitVec 4) : OnlyHalves (decodeControl r aug) := by
  unfold decodeControl
  split
  case h_7 => exact onlyHalves_none
  all_goals exact onlyHalves_some rfl

theorem decodeTransfer_onlyHalves (d s : Reg) (aug : BitVec 4) : OnlyHalves (decodeTransfer d s aug) := by
  unfold decodeTransfer
  split
  case h_9 => exact onlyHalves_none
  all_goals exact onlyHalves_some rfl

theorem plainOrMasked_onlyHalves (aug : BitVec 4) {plain : Instr} {masked : Option Instr}
    (hplain : isWordInstr plain = false) (hmasked : OnlyHalves masked) :
    OnlyHalves (plainOrMasked aug plain masked) := by
  unfold plainOrMasked
  split_ifs
  · exact onlyHalves_some hplain
  · exact hmasked
  · exact onlyHalves_none

theorem plain_onlyHalves (aug : BitVec 4) {plain : Instr} (h : isWordInstr plain = false) :
    OnlyHalves (plainOrMasked aug plain none) :=
  plainOrMasked_onlyHalves aug h onlyHalves_none

theorem decodeHalf_onlyHalves (h : Half) : OnlyHalves (decodeHalf h) := by
  unfold decodeHalf
  dsimp only
  split
  case h_1 => exact decodeControl_onlyHalves _ _
  case h_12 => exact decodeTransfer_onlyHalves _ _ _
  case h_4 => exact plainOrMasked_onlyHalves _ (isWordInstr_ite rfl rfl) (onlyHalves_some rfl)
  any_goals exact onlyHalves_none
  any_goals exact onlyHalves_some rfl
  any_goals exact onlyHalves_some (isWordInstr_ite rfl rfl)
  any_goals exact plain_onlyHalves _ rfl
  all_goals exact plainOrMasked_onlyHalves _ rfl (onlyHalves_some rfl)

theorem decodeImmediate_onlyWords (w : Word) : OnlyWords (decodeImmediate w) := by
  unfold decodeImmediate
  dsimp only
  split
  any_goals exact onlyWords_none
  any_goals exact onlyWords_some rfl
  exact onlyWords_some (isWordInstr_ite rfl rfl)

theorem decodeF8_onlyWords (w : Word) : OnlyWords (decodeF8 w) := by
  unfold decodeF8
  dsimp only
  split
  any_goals exact onlyWords_none
  any_goals exact onlyWords_some rfl
  exact onlyWords_some (isWordInstr_byFormat rfl rfl rfl rfl)

theorem decodeFC_onlyWords (w : Word) : OnlyWords (decodeFC w) := by
  unfold decodeFC
  dsimp only
  split
  any_goals exact onlyWords_none
  all_goals exact onlyWords_some rfl

theorem decodeIncrement_onlyWords (r : Reg) (m : MemRef) : OnlyWords (some (decodeIncrement r m)) := by
  unfold decodeIncrement
  dsimp only
  split <;> exact onlyWords_some rfl

theorem decodeWord_onlyWords (w : Word) : OnlyWords (decodeWord w) := by
  unfold decodeWord
  dsimp only
  split
  any_goals exact onlyWords_none
  any_goals exact onlyWords_some rfl
  any_goals exact onlyWords_some (isWordInstr_byFormat rfl rfl rfl rfl)
  any_goals exact decodeIncrement_onlyWords _ _
  any_goals exact onlyWords_some (isWordInstr_ite rfl rfl)
  any_goals exact onlyWords_some (isWordInstr_ite (isWordInstr_ite rfl rfl) (isWordInstr_ite rfl rfl))
  · exact decodeImmediate_onlyWords w
  · exact decodeF8_onlyWords w
  · exact decodeFC_onlyWords w

theorem orUndefined_eq_ok {o : Option Instr} {i : Instr} : orUndefined o = .ok i ↔ o = some i := by
  cases o <;> simp [orUndefined]

/-- Bit 0 of the first halfword tells the length of what is decoded (30 R101). -/
theorem isWordInstr_of_decode {bytes : List Byte} {i : Instr} (h : decode bytes = .ok i) :
    isWordInstr i = (bytes.headD 0#8).msb := by
  match bytes, h with
  | b0 :: b1 :: rest, h =>
    rw [List.headD_cons]
    cases hmsb : b0.msb
    · simp only [decode, hmsb, Bool.false_eq_true, if_false, orUndefined_eq_ok] at h
      exact decodeHalf_onlyHalves _ i h
    · simp only [decode, hmsb, if_true] at h
      match rest, h with
      | b2 :: b3 :: _, h => exact decodeWord_onlyWords _ i (orUndefined_eq_ok.1 h)

end Sys2Proof

namespace Sys2Proof.Machine

/-! ## An instruction in the program and as a subject (48_control.md R390 to R392, R398) -/

/-- The length of an instruction in halfwords. -/
def instrLength (i : Instr) : BitVec 18 := if isWordInstr i then 2#18 else 1#18

/-- An instruction of the program is its operation after an advance by its length. -/
theorem exec_eq_complete_length (i : Instr) (s : State) :
    exec i s = complete (instrLength i) s.psw.pc (operation i (s.advance (instrLength i))) := by
  cases i <;> rfl

theorem operation_eq_subjectOp {i : Instr} (h : isExecute i = false) (s : State) : operation i s = subjectOp i s := by
  unfold operation
  split
  case h_4 => rfl
  all_goals cases h

theorem isExecute_of_half {i : Instr} (h : isWordInstr i = false) : isExecute i = false := by
  cases i with
  | exr | exrr | exm => cases h
  | _ => rfl

theorem subjectOp_execute {i : Instr} (h : isExecute i = true) (s : State) :
    subjectOp i s = .error (.trap .undefinedInstruction s) := by
  cases i with
  | exr | exrr | exm => rfl
  | _ => cases h

/-- A halfword instruction completes, HALT outside the Unprivileged state. -/
theorem subjectOp_half_ok {i : Instr} {s : State} (h : isWordInstr i = false)
    (hhalt : i = .halt → s.unprivileged = false) : ∃ t, subjectOp i s = .ok t := by
  cases i with
  | halt => exact ⟨_, opHalt_privileged (hhalt rfl)⟩
  | lcs | zr | adr | adrm | sur | surm | mpr | dvr | es | rnd | anr | orr | orrm | eor | eorm | sbr | zbr | abr | tbr
    | car | cmr | trr | trrm | trn | trnm | xcr | xcrm | trc | trcm | trsw | nor | nord | scz | sla | sll | slc | slad
    | slld | sra | srl | src | srad | srld | wait | nop | calm => exact ⟨_, rfl⟩
  | _ => cases h

section Subject

variable {s v : State} {x : Instr} {bytes : List Byte} (h : SubjectOf s x bytes v)
include h

theorem SubjectOf.bussed : Bussed s v := by
  obtain ⟨r, -, -, rfl⟩ | ⟨r, -, -, rfl⟩ | ⟨m, e, u, -, he, -, rfl, -⟩ := h
  · exact .refl _
  · exact .refl _
  · exact (effAddr_bussed he).tick

/-- An execute instruction runs the bytes of its subject after its own length of two halfwords. -/
theorem exec_of_subject : exec x s = complete 2#18 v.psw.pc (executeSubject bytes (v.advance 2#18)) := by
  rw [h.bussed.psw]
  obtain ⟨r, rfl, rfl, rfl⟩ | ⟨r, rfl, rfl, rfl⟩ | ⟨m, e, u, rfl, he, hp, rfl, hq, rfl⟩ := h
  · rfl
  · rw [BitVec.setWidth_eq_extractLsb' (by decide)]; rfl
  · have hread : readWord (u.advance 2#18) e.word = .ok (u.tick.wordAt e.word, u.tick.advance 2#18) :=
      (readWord_ok ..).2 ⟨hp, by rw [tick_advance]; exact hq, by rw [tick_advance]; rfl, (tick_advance u 2#18).symm⟩
    have hop : opExm m (s.advance 2#18) = executeSubject (if e.raw.getLsbD 1 then
        halfBytes ((u.tick.wordAt e.word).setWidth 16) else wordBytes (u.tick.wordAt e.word))
        (u.tick.advance 2#18) := by
      rw [BitVec.setWidth_eq_extractLsb' (by decide)]
      simp only [opExm, effAddr_ok_advance he, hread, bind, Except.bind]
      split <;> rfl
    change runWord (opExm m) s = _
    rw [runWord, hop]

theorem exec_of_decoded {i : Instr} (hd : decode bytes = .ok i) :
    exec x s = complete 2#18 v.psw.pc (subjectOp i (v.advance 2#18)) := by
  rw [exec_of_subject h, executeSubject, hd]

/-- A subject that completes. -/
theorem exec_of_decoded_ok {i : Instr} {t : State} (hd : decode bytes = .ok i)
    (ht : subjectOp i (v.advance 2#18) = .ok t) : exec x s = .next t := by
  rw [exec_of_decoded h hd, ht, complete_ok]

/-- A subject that traps before it changes anything traps at the execute instruction. -/
theorem exec_of_decoded_trap {i : Instr} {y : Trap} (hd : decode bytes = .ok i)
    (ht : subjectOp i (v.advance 2#18) = .error (.trap y (v.advance 2#18))) : exec x s = raise y 2#18 v := by
  rw [exec_of_decoded h hd, ht, complete_trap, setPc_advance, setPc_self]

/-- No instruction at all traps at the execute instruction. -/
theorem exec_of_undecodable {w : DecodeReject} (hd : decode bytes = .error w) :
    exec x s = raise .undefinedInstruction 2#18 v := by
  rw [exec_of_subject h, executeSubject, hd]
  exact (complete_trap ..).trans (by rw [setPc_advance, setPc_self])

end Subject

end Sys2Proof.Machine

namespace Sys2Proof

open Machine

/-- Settles O53: the length of the subject decides where its count begins; what a word or a completing halfword does
after that is the same in the program. -/
theorem executeSubject : Obligations.ExecuteSubject := by
  intro s v x bytes h
  have hpriv : v.unprivileged = s.unprivileged := by rw [h.bussed.1]; rfl
  refine ⟨fun i hd hx hw => ?word, fun i hd hw hhalt => ?half, fun hd hs => ?halt, fun d src hd => ?adr,
    fun i hd hx => ?execute, fun w hd => ?undefined⟩
  case word =>
    have hlen : instrLength i = 2#18 := if_pos ((isWordInstr_of_decode hd).trans hw)
    rw [exec_of_decoded h hd, exec_eq_complete_length, hlen, operation_eq_subjectOp hx]
  case half =>
    have hhalf : isWordInstr i = false := (isWordInstr_of_decode hd).trans hw
    have hlen : instrLength i = 1#18 := by rw [instrLength, hhalf]; rfl
    have hcount : (v.advance 1#18).advance 1#18 = v.advance 2#18 :=
      congrArg v.setPc (BitVec.add_assoc v.psw.pc 1#18 1#18)
    obtain ⟨t, ht⟩ := subjectOp_half_ok (s := v.advance 2#18) hhalf fun hi => hpriv.trans (hhalt hi)
    rw [exec_of_decoded_ok h hd ht, exec_eq_complete_length, hlen, operation_eq_subjectOp (isExecute_of_half hhalf),
      hcount, ht, complete_ok]
  case halt => exact exec_of_decoded_trap h hd (opHalt_unprivileged (s := v.advance 2#18) (hpriv.trans hs))
  case adr =>
    rw [exec_of_decoded_ok h hd rfl, ← h.bussed.reg, ← h.bussed.reg]
    exact congrArg Host.Outcome.next (addTo_one v 2#18 d (v.reg src))
  case execute => exact exec_of_decoded_trap h hd (subjectOp_execute hx _)
  case undefined => exact exec_of_undecodable h hd

end Sys2Proof
